-- ==== Sys2Proof/Word.lean ====
section
/-! DEFINITION. The engine's widths (00_scope.md R11, R13): every value the spec treats as bits. -/

namespace Sys2Proof

/-- `u32`: a state word, an operand, a response data word (R11, R13). Bit 0 is the least significant
bit. `+`, `*`, `<<<` wrap modulo 2^32 and `>>>` fills with zeros, as R14 says. -/
abbrev Word := BitVec 32

/-- A command word: exactly 34 bits (30_encoding.md R54). -/
abbrev CommandWord := BitVec 34

/-- The 10-bit unsigned cursor register (10_state.md R21). -/
abbrev Cursor := BitVec 10

/-- The 2-bit FAULT register (10_state.md R30): bit 0 `OOB`, bit 1 `ILL`. -/
abbrev FaultReg := BitVec 2

/-- The state array `mt[0..623]`: always exactly 624 words (10_state.md R17, R18). -/
abbrev StateArray := Vector Word 624

end Sys2Proof
end

