-- ==== Sys2Proof/Machine/Flags.lean ====
section
/-! DEFINITION. The FAULT register (10_state.md R30; 60_exceptions.md R104, R106). The engine has no other
flags (10_state.md R29). -/

namespace Sys2Proof.Machine

/-- The causes of R104. -/
inductive Cause where
  /-- A `NEXT` read index 624. -/
  | oob
  /-- A command with the reserved opcode was accepted. -/
  | ill
deriving DecidableEq, Repr

/-- The code of a cause: FAULT with only that cause's bit set (R104). -/
def causeCode : Cause → FaultReg
  | .oob => 0b01#2
  | .ill => 0b10#2

/-- The FAULT register after `raise Fault(c)` (R106): bit `c` is 1, the other as before (R108). -/
def raiseIn (c : Cause) (f : FaultReg) : FaultReg := f ||| causeCode c

/-- Field `FAULT.OOB`, bit 0 (R30). -/
def faultOob (f : FaultReg) : Bool := f.getLsbD 0

/-- Field `FAULT.ILL`, bit 1 (R30). -/
def faultIll (f : FaultReg) : Bool := f.getLsbD 1

end Sys2Proof.Machine
end

