-- ==== Sys2Proof/Syntax.lean ====
section
/-! DEFINITION. The commands (30_encoding.md R56, R59) and the lines of the assembler that writes
them (R69, R71). -/

namespace Sys2Proof

/-- One constructor per row of spec/opcode_table.json. The bits a command ignores are no operand of it
(R58, R59: `NEXT`, `SEED_DEFAULT` and `ILLEGAL` have none). -/
inductive Instr where
  /-- `NEXT`, op 0 (42_tempering_output_stage.md R95). -/
  | next
  /-- `SEED v`, op 1 (40_seed_initializer.md R78); `v` is any u32 (R57). -/
  | seed (v : Word)
  /-- `SEED_DEFAULT`, op 2 (40_seed_initializer.md R79). -/
  | seedDefault
  /-- `ILLEGAL`, the reserved op 3 (30_encoding.md R61). -/
  | illegal
deriving DecidableEq, Repr

/-- A command line of the assembler (R69). Immediates are the numbers as written, not yet checked. -/
inductive AsmCommand where
  /-- `NEXT` -/
  | next
  /-- `SEED imm32` -/
  | seed (imm32 : Nat)
  /-- `SEED` with no operand, the pseudo-instruction of R71. -/
  | seedAbsent
  /-- `SEED_DEFAULT` -/
  | seedDefault
  /-- `.word34 imm34` -/
  | word34 (imm34 : Nat)
deriving DecidableEq, Repr

/-- A program item: one command line, or `.rep n` … `.endr` around some (R71). -/
inductive AsmItem where
  | line (c : AsmCommand)
  | rep (n : Nat) (body : List AsmCommand)
deriving DecidableEq, Repr

end Sys2Proof
end

