-- ==== Sys2Proof/WellFormed.lean ====
section
/-! DEFINITION. Which terms of Syntax.lean the spec allows. -/

namespace Sys2Proof

/-- Every command is well formed: the only operand is the seed, whose 32 bits admit exactly the
values R57 calls legal ("any value including 0 is valid"). No term of `Instr` is ill formed. -/
def Instr.wellFormed : Instr → Bool
  | .next => true
  | .seed _ => true
  | .seedDefault => true
  | .illegal => true

/-- The ranges of R69: `imm32` at most 0xFFFFFFFF, `imm34` below 2^34. The assembler refuses a line
outside them and does not mask it. -/
def AsmCommand.wellFormed : AsmCommand → Bool
  | .next => true
  | .seed n => decide (n ≤ 0xFFFFFFFF)
  | .seedAbsent => true
  | .seedDefault => true
  | .word34 n => decide (n < 2 ^ 34)

end Sys2Proof
end

