-- ==== Sys2Proof/Decode.lean ====
section
/-! DEFINITION. Decoding and encoding of command words (30_encoding.md R54–R60, R70–R72), and the
assembler of R69–R71 on parsed lines. -/

namespace Sys2Proof

/-- `word = op * 2^32 + data` (R55): `cmd_op` above `cmd_data`. -/
def commandWord (op : BitVec 2) (data : Word) : CommandWord := op ++ data

/-- Field `op`, bits [33:32] (R55). -/
def opField (w : CommandWord) : BitVec 2 := w.extractLsb' 32 2

/-- Field `data`, bits [31:0] (R55). -/
def dataField (w : CommandWord) : Word := w.extractLsb' 0 32

/-- The opcode map of R56, from an opcode and the data beside it. -/
def decodeFields (op : BitVec 2) (data : Word) : Instr :=
  if op = 0b00#2 then .next
  else if op = 0b01#2 then .seed data
  else if op = 0b10#2 then .seedDefault
  else .illegal

/-- Decoding, a total function from 34-bit words to commands (R59). The ignored data bits do not
enter (R58); no word is rejected, opcode 3 included (R61). -/
def decode (w : CommandWord) : Instr := decodeFields (opField w) (dataField w)

/-- The opcode of a command (R56). -/
def opcodeOf : Instr → BitVec 2
  | .next => 0b00#2
  | .seed _ => 0b01#2
  | .seedDefault => 0b10#2
  | .illegal => 0b11#2

/-- The data field an assembler writes: the seed for `SEED`, zero where the command ignores it
(R57, R71). -/
def operandOf : Instr → Word
  | .next => 0#32
  | .seed v => v
  | .seedDefault => 0#32
  | .illegal => 0#32

/-- The encoder (R55, R56, R70), with zero in every ignored bit. -/
def encode (i : Instr) : CommandWord := commandWord (opcodeOf i) (operandOf i)

/-- The command read from an opcode-table word. A command is 34 bits (R54), the table's numbering is
R55's own; `nbits` (34, or 40 in whole bytes) only says how many bits of `w` are given. A word with a
bit above bit 33 is no command word: `none` (entry 16). -/
def decodeTableWord (nbits w : Nat) : Option Instr :=
  if w % 2 ^ nbits < 2 ^ 34 then some (decode (BitVec.ofNat 34 (w % 2 ^ nbits))) else none

/-- The word of a command line, or a refusal where R69 refuses it. The table of R70; `SEED` with no
operand assembles to `SEED_DEFAULT` (R71); `.word34` emits its word as it stands. -/
def assembleCommand (c : AsmCommand) : Option CommandWord :=
  if c.wellFormed then
    match c with
    | .next => some (encode .next)
    | .seed n => some (encode (.seed (BitVec.ofNat 32 n)))
    | .seedAbsent => some (encode .seedDefault)
    | .seedDefault => some (encode .seedDefault)
    | .word34 n => some (BitVec.ofNat 34 n)
  else none

/-- The words of one command line after the other; refused if one line is. -/
def assembleCommands : List AsmCommand → Option (List CommandWord)
  | [] => some []
  | c :: cs =>
    match assembleCommand c, assembleCommands cs with
    | some w, some ws => some (w :: ws)
    | _, _ => none

/-- The lines `.rep n` … `.endr` stands for: the enclosed ones n times (R71). -/
def repeatLines : Nat → List AsmCommand → List AsmCommand
  | 0, _ => []
  | n + 1, body => body ++ repeatLines n body

/-- A program with its `.rep` blocks written out (R71). -/
def expandItems : List AsmItem → List AsmCommand
  | [] => []
  | .line c :: is => c :: expandItems is
  | .rep n body :: is => repeatLines n body ++ expandItems is

/-- The command words of a program, in the order the host issues them (R69); a `.rep` block is its
lines, textually (R71). -/
def assembleProgram (is : List AsmItem) : Option (List CommandWord) :=
  assembleCommands (expandItems is)

end Sys2Proof
end

