-- ==== Sys2Proof/Config.lean ====
section
/-! DEFINITION. What the spec leaves open: the free value `draw()` and the parameter `IDX624_READ`
(00_scope.md R10, R15; 42_tempering_output_stage.md R97, R98). -/

namespace Sys2Proof

/-- `draw()`: the n-th value the model leaves unconstrained (00_scope.md R15). It has no body, so
nothing can be proved of its values; the model reads it at the counter `State.draws` and advances
that counter. DESIGN CHOICE (entry 5). -/
opaque Config.draw : Nat → Word

/-- The parameter `IDX624_READ` (00_scope.md R10): what a `NEXT` does that reads index 624. -/
inductive Config.Idx624Read where
  /-- The spec's decision (42 R97): record `FAULT.OOB`, answer a draw with the error bit set. -/
  | fault
  /-- A replacement backed by evidence (42 R98): the response as a function of the array and FAULT.
  The spec allows it only once such evidence exists; the model uses `fault`. -/
  | evidence (idx624 : StateArray → FaultReg → Word × Bool)

end Sys2Proof
end

