-- ==== Sys2Proof/Machine/Parameters.lean ====
section
/-! DEFINITION. The constants fixed in hardware (00_scope.md R9) that are words, the default seed, and
the model's choice for `IDX624_READ`. Index bounds and shift amounts stand as R9's numbers in the
operations that use them, as in the spec's pseudocode. -/

namespace Sys2Proof.Machine

/-- UPPER_MASK (R9): the top bit. -/
abbrev upperMask : Word := 0x80000000#32

/-- LOWER_MASK (R9): the low 31 bits. -/
abbrev lowerMask : Word := 0x7FFFFFFF#32

/-- A, the twist matrix constant (R9). -/
abbrev matrixA : Word := 0x9908B0DF#32

/-- F, the initialisation multiplier 1812433253 = 0x6C078965 (R9). -/
abbrev initMultiplier : Word := 1812433253#32

/-- The high split mask of Init (R9). -/
abbrev splitHigh : Word := 0xFFFF0000#32

/-- The low split mask of Init (R9). -/
abbrev splitLow : Word := 0x0000FFFF#32

/-- B, the mask of tempering shift S (R9). -/
abbrev temperB : Word := 0x9D2C5680#32

/-- C, the mask of tempering shift T (R9). -/
abbrev temperC : Word := 0xEFC60000#32

/-- DEFAULT_SEED (R9). -/
abbrev defaultSeed : Word := 5489#32

/-- `IDX624_READ`: the model must use `FAULT` (42 R98; entry 6). -/
def idx624Read : Config.Idx624Read := .fault

end Sys2Proof.Machine
end

