-- ==== Sys2Proof/Machine/SeedInitializer.lean ====
section
/-! DEFINITION. `Init(v)` on the state array (40_seed_initializer.md R73–R76). -/

namespace Sys2Proof.Machine

/-- One iteration of Init (R73): the word for index `i` from the word `p` at index `i - 1`, by the
split multiplication, every intermediate result modulo 2^32 (R74). -/
def initWord (p : Word) (i : Nat) : Word :=
  let s := p ^^^ (p >>> 30)
  let hi := ((s &&& splitHigh) >>> 16) * initMultiplier
  let lo := (s &&& splitLow) * initMultiplier
  ((hi <<< 16) + lo) + BitVec.ofNat 32 i

/-- The loop of Init (R73) from index `i` on, ascending: `p` is `mt[i-1]` as just written, the list is
what the array holds from index `i` on, and each word of it is overwritten. -/
def initFrom : (i : Nat) → (p : Word) → List Word → List Word
  | _, _, [] => []
  | i, p, _ :: rest => initWord p i :: initFrom (i + 1) (initWord p i) rest

/-- Init writes as many words as it finds (10_state.md R18). -/
theorem initFrom_length (i : Nat) (p : Word) (l : List Word) : (initFrom i p l).length = l.length := by
  induction l generalizing i p with
  | nil => rfl
  | cons a l ih => simp [initFrom, ih]

/-- `Init(v)` (R73): `mt[0] <- v`, then indices 1..623 in ascending order, over the array `mt`.
Irreducible for the elaborator only, as `twistWords` is. -/
@[irreducible] def initWords (v : Word) (mt : StateArray) : StateArray :=
  ⟨(v :: initFrom 1 v mt.toList.tail).toArray, by simp [initFrom_length]⟩

end Sys2Proof.Machine
end

