-- ==== Sys2Proof/Machine/TwistStateRefresh.lean ====
section
/-! DEFINITION. `Twist()` on the state array (41_twist_state_refresh.md R82–R84): three ranges, in
place, in ascending order, each write visible to every later read. -/

namespace Sys2Proof.Machine

/-- `y(a, b)` (R82): the top bit of `a`, the low 31 bits of `b`. -/
def twistY (a b : Word) : Word := (a &&& upperMask) ||| (b &&& lowerMask)

/-- `mag(y)` (R82). -/
def twistMag (y : Word) : Word := (y >>> 1) ^^^ ((y &&& 1#32) * matrixA)

/-- The word one iteration writes (R83): the far word, XOR `mag(y(word, near word))`. -/
def twistWord (far a near : Word) : Word := far ^^^ twistMag (twistY a near)

/-- Range 1 (R83): the array after the iterations i = 0 .. n-1 of `for i in 0..226`. -/
def twistRange1 : (n : Nat) → n ≤ 227 → StateArray → StateArray
  | 0, _, mt => mt
  | i + 1, h, mt =>
    let b := twistRange1 i (by omega) mt
    b.set i (twistWord (b[i + 397]'(by omega)) (b[i]'(by omega)) (b[i + 1]'(by omega))) (by omega)

/-- Range 2 (R83): the array after the iterations i = 227 .. 227+n-1 of `for i in 227..622`. The far
word is at index i - 227. -/
def twistRange2 : (n : Nat) → n ≤ 396 → StateArray → StateArray
  | 0, _, mt => mt
  | k + 1, h, mt =>
    let b := twistRange2 k (by omega) mt
    b.set (227 + k)
      (twistWord (b[k]'(by omega)) (b[227 + k]'(by omega)) (b[227 + k + 1]'(by omega))) (by omega)

/-- Range 3 (R83): i = 623, near word `mt[0]`, far word `mt[396]` (90_conflicts.md C1). -/
def twistRange3 (mt : StateArray) : StateArray := mt.set 623 (twistWord mt[396] mt[623] mt[0])

/-- The array `Twist()` leaves (R83, R84): range 1, then range 2, then range 3. Irreducible for the elaborator
only, so that no unification unfolds its 624 iterations by accident; `unfold twistWords` opens it. -/
@[irreducible] def twistWords (mt : StateArray) : StateArray :=
  twistRange3 (twistRange2 396 (by omega) (twistRange1 227 (by omega) mt))

end Sys2Proof.Machine
end

