-- ==== Sys2Proof/Machine/State.lean ====
section
/-! DEFINITION. The state of the engine (10_state.md R17–R36), its ports (R33), its stop reasons and
the state after reset (70_reset_and_hazards.md R121). -/

namespace Sys2Proof.Machine

/-- Why a step stops the machine: never. The spec gives every command an effect and a response in
every state (60_exceptions.md R106, R108, R112), so this type has no constructor: a fault of the spec is
a bit of the FAULT register, and the machine goes on (entry 20). -/
inductive Fault
deriving DecidableEq, Repr

/-- Why the model has no meaning for a command. -/
inductive Refusal where
  /-- Raised by an arm of `exec` whose command has no meaning yet; no arm does. Safe: the model stops
  where the hardware goes on. -/
  | notModelled (mnemonic : String)
deriving DecidableEq, Repr

/-- A response: `rsp_data` and `rsp_err` (30_encoding.md R62, R64). -/
structure Response where
  data : Word
  err : Bool
deriving DecidableEq, Repr

/-- The levels of the input ports at one step (10_state.md R33). `rst` true means reset is asserted,
whatever its polarity (`RESET_STYLE`, 00_scope.md R10). -/
structure PortsIn where
  rst : Bool
  cmdValid : Bool
  cmdOp : BitVec 2
  cmdData : Word
  rspReady : Bool
deriving DecidableEq, Repr

/-- The levels of the output ports (10_state.md R33, R34). `rspData` and `rspErr` are `none` while
`rsp_valid` is 0, when their value is a don't-care (93 U7; entry 7). -/
structure PortsOut where
  cmdReady : Bool
  rspValid : Bool
  rspData : Option Word
  rspErr : Option Bool
  fault : FaultReg
deriving DecidableEq, Repr

/-- The two logical states of 10_state.md R25, a function of the cursor. -/
inductive Phase where
  | ready
  | exhausted
deriving DecidableEq, Repr

/-- What one step does (30_encoding.md R63, R64, R67; 70_reset_and_hazards.md R120). -/
inductive Move where
  /-- Reset is asserted. -/
  | reset
  /-- The host takes the response. -/
  | take
  /-- The engine executes the command in progress. -/
  | run (w : CommandWord)
  /-- The engine accepts the word on the command port. -/
  | accept (w : CommandWord)
  /-- Nothing happens. -/
  | idle
deriving DecidableEq, Repr

/-- The state: the spec's tuple `(mt, cur, FAULT, busy, slot)` (10_state.md R36) and two fields of the
model's own, the host's coming port levels and the counter of free values. -/
structure State where
  /-- The state array (R17). -/
  mt : StateArray
  /-- The cursor (R21). -/
  cur : Cursor
  /-- The FAULT register (R30). -/
  fault : FaultReg
  /-- `busy` (R34): 1 exactly while this holds a word, the accepted command in progress (entry 2). -/
  busyWith : Option CommandWord
  /-- The response slot: empty or one response (R34). -/
  slot : Option Response
  /-- MODEL'S OWN: the input ports' levels at the coming steps, oldest first (entry 3). -/
  inputs : List PortsIn
  /-- MODEL'S OWN: how many free values have been drawn (entry 5). -/
  draws : Nat
deriving DecidableEq, Repr

/-- The state once reset completes (70 R121). `Init` overwrites every word, so the array it starts
from does not matter (entry 21). -/
def State.reset : State where
  mt := twistWords (initWords defaultSeed (Vector.replicate 624 0#32))
  cur := 0#10
  fault := 0b00#2
  busyWith := none
  slot := none
  inputs := []
  draws := 0

end Sys2Proof.Machine
end

