-- ==== Sys2Proof/Machine/Operands.lean ====
section
/-! DEFINITION. What the engine reads from its input ports: the levels at this step, and the one operand
form, the command word on `cmd_op` and `cmd_data` (10_state.md R33; 30_encoding.md R55, R63). -/

namespace Sys2Proof.Machine

/-- A host that drives nothing. `cmd_op` and `cmd_data` have no effect while `cmd_valid` is 0
(70_reset_and_hazards.md R132), so their zero is never read. -/
def PortsIn.quiet : PortsIn := ⟨false, false, 0#2, 0#32, false⟩

/-- A host that presents the word `w` and nothing else. -/
def PortsIn.present (w : CommandWord) : PortsIn := ⟨false, true, opField w, dataField w, false⟩

/-- A host that takes a response and nothing else. -/
def PortsIn.take : PortsIn := ⟨false, false, 0#2, 0#32, true⟩

/-- A host that asserts reset. -/
def PortsIn.reset : PortsIn := ⟨true, false, 0#2, 0#32, false⟩

/-- The word on the command port (R55). -/
def PortsIn.word (p : PortsIn) : CommandWord := commandWord p.cmdOp p.cmdData

/-- The input levels at this step; once the list is used up the host drives nothing (entry 3). -/
def State.ports (s : State) : PortsIn := s.inputs.headD PortsIn.quiet

/-- The same state, with the host's next levels at the ports. -/
def State.advance (s : State) : State := { s with inputs := s.inputs.tail }

end Sys2Proof.Machine
end

