-- ==== Sys2Proof/Machine/Tempering.lean ====
section
/-! DEFINITION. `Temper(x)` (42_tempering_output_stage.md R92). -/

namespace Sys2Proof.Machine

/-- `Temper(x)` (R92): each step uses the result of the step before it; the shift is masked first and
the XOR applied second. -/
def temper (x : Word) : Word :=
  let x1 := x ^^^ (x >>> 11)
  let x2 := x1 ^^^ ((x1 <<< 7) &&& temperB)
  let x3 := x2 ^^^ ((x2 <<< 15) &&& temperC)
  x3 ^^^ (x3 >>> 18)

end Sys2Proof.Machine
end

