-- ==== Sys2Proof/Machine/Ops.lean ====
section
/-! DEFINITION. The named operations on the state: the spec's primitives `Init`, `Twist`, `raise`,
`respond`, `draw`, `READ_624` (00_scope.md R15), the port handshake (30_encoding.md R63–R66), reset
(70_reset_and_hazards.md R120), and which of them a step performs. -/

namespace Sys2Proof.Machine

/-- The phase, a function of `cur` (10_state.md R25). -/
def State.phase (s : State) : Phase := if s.cur.toNat < 624 then .ready else .exhausted

/-- `busy` (10_state.md R34). -/
def State.busy (s : State) : Bool := s.busyWith.isSome

/-- `rsp_valid`: the slot is full (10_state.md R34). -/
def State.rspValid (s : State) : Bool := s.slot.isSome

/-- `cmd_ready`: not busy and slot empty (10_state.md R34). Reset is one step, so the reset
initialisation is complete in every state between steps (entry 11). -/
def State.cmdReady (s : State) : Bool := !s.busy && !s.rspValid

/-- The output ports (10_state.md R33, R34): FAULT is driven as a level. -/
def State.portsOut (s : State) : PortsOut where
  cmdReady := s.cmdReady
  rspValid := s.rspValid
  rspData := s.slot.map Response.data
  rspErr := s.slot.map Response.err
  fault := s.fault

/-- `Init(v)` (40 R73): it writes `mt` and nothing else. -/
def State.initArray (v : Word) (s : State) : State := { s with mt := initWords v s.mt }

/-- `Twist()` (41 R83): the refreshed array, then `cur <- 0`. -/
def State.twist (s : State) : State := { s with mt := twistWords s.mt, cur := 0#10 }

/-- Seeding (40 R77): `Init(v)`, then an unconditional `Twist`. -/
def State.seedWith (v : Word) (s : State) : State := (s.initArray v).twist

/-- `raise Fault(c)` (60 R106): taking the only kind of exception there is. It sets `FAULT[c]` and does
nothing else: no transfer of control, no saved state, no mode; there is no return from it (R108). -/
def State.raise (c : Cause) (s : State) : State := { s with fault := raiseIn c s.fault }

/-- `respond(d, e)` (30_encoding R64): the slot is filled, and with it `busy` ends (10_state R34). -/
def State.respond (d : Word) (e : Bool) (s : State) : State :=
  { s with slot := some ⟨d, e⟩, busyWith := none }

/-- `draw()` (00_scope R15): the value now drawn. -/
def State.drawn (s : State) : Word := Config.draw s.draws

/-- The state after a draw: the next one is another value. -/
def State.afterDraw (s : State) : State := { s with draws := s.draws + 1 }

/-- `cur <- cur + 1` (42 R95). -/
def State.incrementCursor (s : State) : State := { s with cur := s.cur + 1#10 }

/-- The refresh check of `NEXT` (42 R95, R96): `if cur >= 624: Twist()`. -/
def State.refreshIfExhausted (s : State) : State := if 624 ≤ s.cur.toNat then s.twist else s

/-- `READ_624()` under a value of the parameter `IDX624_READ` (42 R97, R98). Under `FAULT`: the bit OOB,
a draw as data, the error bit; `mt` and `cur` stay. -/
def State.readIdx624 (p : Config.Idx624Read) (s : State) : State :=
  match p with
  | .fault => (s.raise .oob).afterDraw.respond s.drawn true
  | .evidence f => s.respond (f s.mt s.fault).1 (f s.mt s.fault).2

/-- The read, tempering and response of `NEXT`, after the increment (42 R95). -/
def State.readAtCursor (s : State) : State :=
  if h : s.cur.toNat < 624 then s.respond (temper (s.mt[s.cur.toNat]'h)) false
  else s.readIdx624 idx624Read

/-- The acceptance of a word (30_encoding R63): the command is in progress, `busy` is 1. -/
def State.accept (w : CommandWord) (s : State) : State := { s with busyWith := some w }

/-- The host takes the response; the slot empties (30_encoding R64). -/
def State.takeResponse (s : State) : State := { s with slot := none }

/-- RESET (70 R120), in its order: abandon the command in progress and empty the slot; clear FAULT;
`Init(5489)`; `Twist()`. The model's own fields stay. -/
def State.applyReset (s : State) : State :=
  State.seedWith defaultSeed { s with busyWith := none, slot := none, fault := 0b00#2 }

/-- What this step does. Reset has priority over everything (60 R110); a full slot is emptied when
`rsp_ready` is 1 and held otherwise (30_encoding R64), so no response is overwritten; a command in
progress is executed (R67); a word is accepted when `cmd_valid` and `cmd_ready` are 1 (R63); else the
engine is idle (60 R118). Entry 8. -/
def State.move (s : State) : Move :=
  if s.ports.rst then .reset
  else if s.rspValid then (if s.ports.rspReady then .take else .idle)
  else
    match s.busyWith with
    | some w => .run w
    | none => if s.ports.cmdValid && s.cmdReady then .accept s.ports.word else .idle

end Sys2Proof.Machine
end

