-- ==== Sys2Proof/Machine/Illegal.lean ====
section
/-! DEFINITION. The reserved opcode 3 (30_encoding.md R61). -/

namespace Sys2Proof.Machine

/-- `ILLEGAL` (R61): `raise Fault(ILL)`, `respond(0x00000000, 1)`; `mt` and `cur` unchanged. -/
def execIllegal (s : State) : Host.Outcome State Fault Refusal :=
  .next ((s.raise .ill).respond 0x00000000#32 true)

end Sys2Proof.Machine
end

