-- ==== Sys2Proof/Machine/Output.lean ====
section
/-! DEFINITION. The output command `NEXT` (42_tempering_output_stage.md R95–R103). -/

namespace Sys2Proof.Machine

/-- `NEXT` (R95), in the order R96 makes mandatory: check for exhaustion and refresh, increment, read
at the new cursor, temper, respond. -/
def execNext (s : State) : Host.Outcome State Fault Refusal :=
  .next s.refreshIfExhausted.incrementCursor.readAtCursor

end Sys2Proof.Machine
end

