-- ==== Sys2Proof/Machine/Seeding.lean ====
section
/-! DEFINITION. The seeding commands (40_seed_initializer.md R77–R79). -/

namespace Sys2Proof.Machine

/-- `SEED v` (R78): `Init(v)`, `Twist()`, `respond(0x00000000, 0)`. FAULT is unchanged. -/
def execSeed (v : Word) (s : State) : Host.Outcome State Fault Refusal :=
  .next ((s.seedWith v).respond 0x00000000#32 false)

/-- `SEED_DEFAULT` (R79): `SEED(5489)`, its response included. -/
def execSeedDefault (s : State) : Host.Outcome State Fault Refusal :=
  .next ((s.seedWith defaultSeed).respond 0x00000000#32 false)

end Sys2Proof.Machine
end

