-- ==== Sys2Proof/Machine/Dispatch.lean ====
section
/-! DEFINITION. One arm per command. -/

namespace Sys2Proof.Machine

/-- The meaning of a command: one atomic step of the engine agent (30_encoding.md R67). -/
def exec (i : Instr) (s : State) : Host.Outcome State Fault Refusal :=
  match i with
  | .next => Sys2Proof.Machine.execNext s
  | .seed v => Sys2Proof.Machine.execSeed v s
  | .seedDefault => Sys2Proof.Machine.execSeedDefault s
  | .illegal => Sys2Proof.Machine.execIllegal s

end Sys2Proof.Machine
end

