-- ==== Sys2Proof/Machine/Step.lean ====
section
/-! DEFINITION. One step, and the placing of a command for the next one. -/

namespace Sys2Proof.Machine

/-- One step: the move `State.move` selects, made with the input levels of this step used up. A step
is one interaction, not a clock cycle (entry 1). -/
def step (s : State) : Host.Outcome State Fault Refusal :=
  match s.move with
  | .reset => .next s.advance.applyReset
  | .take => .next s.advance.takeResponse
  | .run w => exec (decode w) s.advance
  | .accept w => .next (s.advance.accept w)
  | .idle => .next s.advance

/-- `s` with the command `w` accepted and in progress, so that the very next step runs it: the word
stands in `busyWith`, no earlier response blocks the engine, and reset is not asserted at that step. A
command has 34 bits (30_encoding.md R54); `nbits` says how many of them are given, the rest are 0. -/
def State.withFetchWord (s : State) (nbits w : Nat) : State :=
  { s with
    busyWith := some (BitVec.ofNat 34 (w % 2 ^ nbits))
    slot := none
    inputs :=
      match s.inputs with
      | [] => []
      | p :: ps => { p with rst := false } :: ps }

end Sys2Proof.Machine
end

