-- ==== Sys2Proof/Safety.lean ====
section
/-! DEFINITION. What counts as a good state and a safe run (60_exceptions.md R109;
70_reset_and_hazards.md R132–R134), and what a run shows (R133). -/

namespace Sys2Proof.Machine

/-- A run that has come here is faulted (60 R109): some FAULT bit is set. The engine goes on, but no
claim may rest on a value returned after it. -/
def State.faulted (s : State) : Prop := s.fault ≠ 0b00#2

/-- The invariant of every state a run reaches: the cursor is in 0..624 (10_state R24), at most one of
busy and full slot holds (30_encoding R65), and a waiting response with the error bit has its cause
recorded (60 R106). -/
def State.Inv (s : State) : Prop :=
  s.cur.toNat ≤ 624 ∧ (s.busy && s.rspValid) = false ∧
    ((s.slot.map Response.err).getD false = true → s.fault ≠ 0b00#2)

/-- The array is some number of twists, at least one, of the initialisation of some seed
(40 R77; 42 R101). -/
def State.ArraySeeded (s : State) : Prop :=
  ∃ (v : Word) (n : Nat), s.mt = twistWords^[n + 1] (initWords v (Vector.replicate 624 0#32))

/-- A step that sets a FAULT bit, a fault of 60 R109: from a clear register it leaves a bit set. No step
reads FAULT (42_tempering R102), so clearing it first changes nothing but makes a repeated raise seen. -/
def State.setsFault (s : State) : Bool :=
  match step { s with fault := 0b00#2 } with
  | .next t => t.fault != 0b00#2
  | .fault _ => false
  | .refused _ => false

/-- None of the next `k` steps sets a FAULT bit. -/
def noFaultSet : Nat → State → Bool
  | 0, _ => true
  | k + 1, s =>
    !s.setsFault &&
      match step s with
      | .next t => noFaultSet k t
      | .fault _ => true
      | .refused _ => true

/-- The word the engine accepts at this step, if any. -/
def State.accepted (s : State) : List CommandWord :=
  match s.move with
  | .accept w => [w]
  | _ => []

/-- The responses the host takes at this step. -/
def State.delivered (s : State) : List Response :=
  match s.move with
  | .take => s.slot.toList
  | _ => []

/-- A run, or as much of it as has happened (70 R133): the commands accepted and the responses taken,
in order, and the state it has come to. Its observation is `responses` and the `(mt, cur, FAULT)` of
`final`. -/
structure Run where
  commands : List CommandWord
  responses : List Response
  final : State
deriving DecidableEq, Repr

/-- The run `r` with the step at `s` before it. -/
def Run.after (s : State) (r : Run) : Run where
  commands := s.accepted ++ r.commands
  responses := s.delivered ++ r.responses
  final := r.final

/-- The run of the next `k` steps. A run starts at the completion of reset (70 R133), so none holds a
reset: with reset asserted at one of the steps there is no run of them, whatever it abandons is never
over, and the next run starts at the state that reset leaves (entry 23). -/
def observe : Nat → State → Option Run
  | 0, s => some ⟨[], [], s⟩
  | k + 1, s =>
    if s.ports.rst then none
    else
      match step s with
      | .next t => (observe k t).map (Run.after s)
      | .fault _ => none
      | .refused _ => none

/-- A run is over when no accepted command is without its response taken (70 R133). -/
def Run.over (r : Run) : Bool := !r.final.busy && !r.final.rspValid

/-- The host's duty at this step (30_encoding R63; 70 R125): a presented command that is not accepted
now is presented unchanged at the next step. -/
def State.holdsCommand (s : State) : Bool :=
  !s.ports.cmdValid || s.move == .accept s.ports.word ||
    (s.advance.ports.cmdValid && s.advance.ports.word == s.ports.word)

/-- The host keeps its duty for `k` steps. -/
def hostKeepsDuty : Nat → State → Bool
  | 0, _ => true
  | k + 1, s =>
    s.holdsCommand &&
      match step s with
      | .next t => hostKeepsDuty k t
      | .fault _ => true
      | .refused _ => true

/-- The start of a run (70 R134): the state of R121, with what the host will drive. -/
def launch (inputs : List PortsIn) (draws : Nat) : State :=
  { State.reset with inputs := inputs, draws := draws }

/-- `r` is a safe run of `k` steps (70 R134): it starts at the reset state, no reset is asserted on it, the
host keeps its duty, it is over, and no FAULT bit is set at its end. With no reset on it FAULT bits are
sticky (60 R108), so no step of it set one and no response of it was returned after a fault. -/
def safeRun (k : Nat) (inputs : List PortsIn) (draws : Nat) (r : Run) : Prop :=
  hostKeepsDuty k (launch inputs draws) = true ∧ observe k (launch inputs draws) = some r ∧
    r.over = true ∧ ¬ r.final.faulted

/-- The form of a claim about runs: `post` holds of every safe run. "No FAULT bit set" is a premise of
every claim (60 R109); of a faulted run nothing is claimed. -/
def Claim (post : Run → Prop) : Prop :=
  ∀ (k : Nat) (inputs : List PortsIn) (draws : Nat) (r : Run), safeRun k inputs draws r → post r

/-- A claim about the stream of seed `v`: the run starts with the command `SEED v` (70 R134). -/
def StreamClaim (v : Word) (post : Run → Prop) : Prop :=
  Claim fun r => (r.commands.map decode).head? = some (.seed v) → post r

/-- Commands at transaction level (30_encoding R66, R67): one after the other, each response taken
before the next command. -/
def transact : List Instr → State → Option (List Response × State)
  | [], s => some ([], s)
  | i :: is, s =>
    match exec i s with
    | .next t => (transact is t.takeResponse).map (fun o => (t.slot.toList ++ o.1, o.2))
    | .fault _ => none
    | .refused _ => none

/-- A host that issues the words one at a time: it presents one, waits while the engine executes it,
takes the response (70 R132). -/
def hostScript : List CommandWord → List PortsIn
  | [] => []
  | w :: ws => .present w :: .quiet :: .take :: hostScript ws

/-- What a claim may rest on in a response: the data word, unless the error bit is set. -/
def Response.defined (r : Response) : Option Word := if r.err then none else some r.data

end Sys2Proof.Machine
end

