-- ==== Sys2Proof/Certificates/Slice0/Obligations.lean ====
section
/-! DEFINITION. The statements for the provers. `Config.draw` is the model's free value: a statement
that names it holds for every value of it. -/

open Sys2Proof Sys2Proof.Machine

/-! ## Helpers of the statements -/

/-- The single loop of 41 R86 after its iterations i = 0 .. n-1, in place and ascending, index
arithmetic modulo 624. -/
def Sys2Proof.Machine.twistModLoop : (n : Nat) → n ≤ 624 → StateArray → StateArray
  | 0, _, mt => mt
  | i + 1, h, mt =>
    let b := twistModLoop i (by omega) mt
    b.set i
      (b[(i + 397) % 624]'(Nat.mod_lt _ (by omega)) ^^^
        twistMag (twistY (b[i]'(by omega)) (b[(i + 1) % 624]'(Nat.mod_lt _ (by omega)))))
      (by omega)

/-! ## Reset -/

/-- 70 R121: the table of the state after reset. `rsp_data` and `rsp_err` are a don't-care while
`rsp_valid` is 0; nothing is said of them. -/
def Obligations.StateAfterReset : Prop :=
  (∀ a : StateArray, State.reset.mt = twistWords (initWords 5489#32 a)) ∧
  State.reset.mt[0] = 0x9B0AFA27#32 ∧ State.reset.mt[1] = 0xE99DE361#32 ∧
  State.reset.mt[2] = 0x87532B73#32 ∧ State.reset.mt[3] = 0xC1FB51E3#32 ∧
  State.reset.mt[396] = 0x453CCF7B#32 ∧ State.reset.mt[623] = 0xD1B102B7#32 ∧
  State.reset.cur = 0#10 ∧ State.reset.phase = .ready ∧ State.reset.fault = 0b00#2 ∧
  State.reset.slot = none ∧ State.reset.rspValid = false ∧ State.reset.busy = false ∧
  State.reset.cmdReady = true

/-- 70 R122: reset asserted at a step, in ANY state (a command in progress, a response not taken): the
next state holds what the reset state holds, with no command in progress and no response, and
nothing is delivered at that step. -/
def Obligations.ResetAbandonsCommandAndResponse : Prop :=
  ∀ s : State, s.ports.rst = true →
    ∃ t, step s = .next t ∧ t.mt = State.reset.mt ∧ t.cur = State.reset.cur ∧
      t.fault = State.reset.fault ∧ t.busyWith = none ∧ t.slot = none ∧ s.delivered = []

/-- 70 R123: `(mt, cur)` after reset is that after `SEED_DEFAULT` or `SEED 5489` from any state;
reset also clears FAULT, a seeding command leaves it and answers. -/
def Obligations.ResetEqualsDefaultSeeding : Prop :=
  ∀ s r : State, ∀ i : Instr, i = .seedDefault ∨ i = .seed 5489#32 →
    ∃ t, exec i s = .next t ∧ t.mt = r.applyReset.mt ∧ t.cur = r.applyReset.cur ∧
      t.fault = s.fault ∧ r.applyReset.fault = 0b00#2 ∧
      t.slot = some ⟨0#32, false⟩ ∧ r.applyReset.slot = none

/-! ## Init -/

/-- 40 R73: the loop of Init, read off the array it leaves; `mt[i]` is the split-multiply formula of
`mt[i-1]`. `Init` reads nothing but the seed and writes nothing but `mt`. -/
def Obligations.InitRecurrence : Prop :=
  (∀ (v : Word) (a : StateArray), (initWords v a)[0] = v ∧
    ∀ (i : Nat) (_ : 1 ≤ i) (h : i < 624),
      let s := (initWords v a)[i - 1] ^^^ ((initWords v a)[i - 1] >>> 30)
      let hi := ((s &&& 0xFFFF0000#32) >>> 16) * 1812433253#32
      let lo := (s &&& 0x0000FFFF#32) * 1812433253#32
      (initWords v a)[i] = ((hi <<< 16) + lo) + BitVec.ofNat 32 i) ∧
  (∀ (v : Word) (a b : StateArray), initWords v a = initWords v b) ∧
  (∀ (v : Word) (s : State), s.initArray v = { s with mt := initWords v s.mt })

/-- 40 R75: the split multiplication equals the plain one, for every s; so every word of the array
satisfies the closed form. -/
def Obligations.InitClosedForm : Prop :=
  (∀ s : Word,
    (((((s &&& 0xFFFF0000#32) >>> 16) * 1812433253#32) <<< 16) +
      (s &&& 0x0000FFFF#32) * 1812433253#32) = 1812433253#32 * s) ∧
  (∀ (v : Word) (a : StateArray) (i : Nat) (_ : 1 ≤ i) (h : i < 624),
    (initWords v a)[i].toNat =
      (1812433253 * ((initWords v a)[i - 1] ^^^ ((initWords v a)[i - 1] >>> 30)).toNat + i) % 2 ^ 32)

/-! ## Seeding commands -/

/-- 40 §2 (SEED): in every state, `SEED v` completes: Init, Twist, cursor 0, response (0, 0);
everything else, FAULT with it, is unchanged. -/
def Obligations.SeedCompletes : Prop :=
  ∀ (v : Word) (s : State),
    exec (.seed v) s = .next
      { s with mt := twistWords (initWords v s.mt), cur := 0#10, slot := some ⟨0#32, false⟩,
               busyWith := none }

/-- 40 R79: `SEED_DEFAULT` completes in every state with exactly the effect of `SEED 5489`; its word
has op = 0b10 and any data; a `NEXT` after it returns 581869302. -/
def Obligations.SeedDefaultIsSeed5489 : Prop :=
  (∀ s : State, exec .seedDefault s = exec (.seed 5489#32) s) ∧
  (∀ s : State, exec .seedDefault s = .next
    { s with mt := twistWords (initWords 5489#32 s.mt), cur := 0#10, slot := some ⟨0#32, false⟩,
             busyWith := none }) ∧
  (∀ d : Word, decode (commandWord 0b10#2 d) = .seedDefault) ∧
  encode .seedDefault ≠ encode (.seed 5489#32) ∧
  ∀ s : State, ∃ t u, exec .seedDefault s = .next t ∧ exec .next t = .next u ∧
    u.slot = some ⟨581869302#32, false⟩

/-- 40 R77: after any seeding command `mt = Twist(Init(v))`, `cur = 0`, phase Ready. -/
def Obligations.SeedingEndsInTwist : Prop :=
  ∀ s : State,
    (∀ v, ∃ t, exec (.seed v) s = .next t ∧ t.mt = twistWords (initWords v s.mt) ∧ t.cur = 0#10 ∧
      t.phase = .ready) ∧
    (∃ t, exec .seedDefault s = .next t ∧ t.mt = twistWords (initWords 5489#32 s.mt) ∧
      t.cur = 0#10 ∧ t.phase = .ready)

/-- 40 §2, corner cases of SEED: the state after it depends on the seed alone; 20 §3: it is idempotent
on `(mt, cur)` and clears nothing in FAULT. -/
def Obligations.SeedForgetsTheOldState : Prop :=
  ∀ (v : Word) (s r : State), ∃ t u w, exec (.seed v) s = .next t ∧ exec (.seed v) r = .next u ∧
    exec (.seed v) t = .next w ∧ t.mt = u.mt ∧ t.cur = u.cur ∧ t.slot = u.slot ∧
    w.mt = t.mt ∧ w.cur = t.cur ∧ w.fault = t.fault ∧ t.fault = s.fault

/-- Frame of the seeding commands: FAULT, the host's coming levels and the draw counter. -/
def Obligations.SeedingFrame : Prop :=
  ∀ (i : Instr) (s t : State), (i = .seedDefault ∨ ∃ v, i = .seed v) → exec i s = .next t →
    t.fault = s.fault ∧ t.inputs = s.inputs ∧ t.draws = s.draws

/-! ## Twist -/

/-- 41 R82: bit 31 of `y(a, b)` is a's, the others b's; `mag` shifts and, for an odd y, XORs A; the
product is 0 or A and does not overflow. -/
def Obligations.TwistHelpers : Prop :=
  (∀ a b : Word, (twistY a b).getLsbD 31 = a.getLsbD 31 ∧
    ∀ j < 31, (twistY a b).getLsbD j = b.getLsbD j) ∧
  (∀ y : Word, twistMag y = if y.getLsbD 0 then (y >>> 1) ^^^ 0x9908B0DF#32 else y >>> 1) ∧
  (∀ y : Word, (y &&& 1#32) * 0x9908B0DF#32 = if y.getLsbD 0 then 0x9908B0DF#32 else 0x00000000#32) ∧
  (∀ y : Word, ((y &&& 1#32) * 0x9908B0DF#32).toNat = (y &&& 1#32).toNat * 0x9908B0DF)

/-- 41 R85: which reads of the twist are old (`o`) and which are new (`n`). -/
def Obligations.TwistReadsOldAndNew : Prop :=
  ∀ o : StateArray,
    let n := twistWords o
    (∀ (i : Nat) (h : i < 227),
      n[i]'(by omega) = o[i + 397]'(by omega) ^^^
        twistMag (twistY (o[i]'(by omega)) (o[i + 1]'(by omega)))) ∧
    (∀ (i : Nat) (_ : 227 ≤ i) (h : i < 623),
      n[i]'(by omega) = n[i - 227]'(by omega) ^^^
        twistMag (twistY (o[i]'(by omega)) (o[i + 1]'(by omega)))) ∧
    n[623] = n[396] ^^^ twistMag (twistY o[623] n[0])

/-- 41 R86: the three ranges equal the single loop with indices modulo 624. -/
def Obligations.TwistEqualsSingleLoop : Prop :=
  ∀ a : StateArray, twistWords a = twistModLoop 624 (by omega) a

/-- 41 §3, corner cases: an all-zero array stays zero; with `mt[0]` = 1 and zeros the result is all
zero; in both `cur` becomes 0. -/
def Obligations.TwistOfZeroArrays : Prop :=
  ∀ s : State, s.mt = Vector.replicate 624 0#32 ∨ s.mt = (Vector.replicate 624 0#32).set 0 1#32 →
    s.twist = { s with mt := Vector.replicate 624 0#32, cur := 0#10 }

/-! ## Temper -/

/-- 42 R92: the four steps. -/
def Obligations.TemperSteps : Prop :=
  ∀ x x1 x2 x3 x4 : Word,
    x1 = x ^^^ (x >>> 11) → x2 = x1 ^^^ ((x1 <<< 7) &&& 0x9D2C5680#32) →
    x3 = x2 ^^^ ((x2 <<< 15) &&& 0xEFC60000#32) → x4 = x3 ^^^ (x3 >>> 18) → temper x = x4

/-- 42 §1: `Temper` is a bijection on u32, XOR-linear, and fixes 0 and 2. -/
def Obligations.TemperIsBijective : Prop :=
  Function.Bijective temper ∧ (∀ x y, temper (x ^^^ y) = temper x ^^^ temper y) ∧
    temper 0#32 = 0#32 ∧ temper 2#32 = 2#32

/-- 42 R94: the worked example, step by step, for the post-twist `mt[1]` of seed 5489. -/
def Obligations.TemperWorkedExample : Prop :=
  (∀ a : StateArray, (twistWords (initWords 5489#32 a))[1] = 0xE99DE361#32) ∧
  0xE99DE361#32 ^^^ (0xE99DE361#32 >>> 11) = 0xE980D0DD#32 ∧
  0xE980D0DD#32 ^^^ ((0xE980D0DD#32 <<< 7) &&& 0x9D2C5680#32) = 0x69A8965D#32 ∧
  0x69A8965D#32 ^^^ ((0x69A8965D#32 <<< 15) &&& 0xEFC60000#32) = 0x22AE965D#32 ∧
  0x22AE965D#32 ^^^ (0x22AE965D#32 >>> 18) = 0x22AE9EF6#32 ∧
  temper 0xE99DE361#32 = 581869302#32

/-! ## NEXT -/

/-- 42 §2: `NEXT` completes in every state (the free value at index 624 is the model's form of
`draw()`, entry 5; a cursor above 624, which no run reaches, behaves as 624, entry 9). Ready below 623: it reads the next word. At 623: index 624
(the spec's decision FAULT; the data is the model's free value). Exhausted: it twists and reads word
1. All else is unchanged. -/
def Obligations.NextCompletes : Prop :=
  ∀ s : State,
    exec .next s = .next
      (if h : s.cur.toNat < 623 then
        { s with cur := s.cur + 1#10, slot := some ⟨temper s.mt[s.cur.toNat + 1], false⟩,
                 busyWith := none }
      else if s.cur.toNat = 623 then
        { s with cur := 624#10, fault := s.fault ||| 0b01#2,
                 slot := some ⟨Config.draw s.draws, true⟩, busyWith := none, draws := s.draws + 1 }
      else
        { s with mt := twistWords s.mt, cur := 1#10,
                 slot := some ⟨temper (twistWords s.mt)[1], false⟩, busyWith := none })

/-- 42 R97: the read at index 624: OOB set, some data with the error bit, `mt` and the other FAULT bit
unchanged, `cur` 624; the run is faulted; the next `NEXT` twists. -/
def Obligations.ReadAtIndex624Faults : Prop :=
  ∀ s : State, s.cur.toNat = 623 →
    ∃ t u d, exec .next s = .next t ∧ t.slot = some ⟨d, true⟩ ∧ faultOob t.fault = true ∧
      faultIll t.fault = faultIll s.fault ∧ t.mt = s.mt ∧ t.cur = 624#10 ∧ t.faulted ∧
      exec .next t = .next u ∧ u.mt = twistWords s.mt ∧ u.cur = 1#10

/-- Frame of `NEXT`: the host's coming levels and FAULT.ILL are unchanged; FAULT.OOB changes only at
`cur` = 623; no word of the array changes unless the cursor is exhausted; no free value is drawn but
at 623. -/
def Obligations.NextFrame : Prop :=
  ∀ s t : State, exec .next s = .next t →
    t.inputs = s.inputs ∧ faultIll t.fault = faultIll s.fault ∧
    faultOob t.fault = (faultOob s.fault || decide (s.cur.toNat = 623)) ∧
    (s.cur.toNat < 624 → ∀ (i : Nat) (h : i < 624), t.mt[i] = s.mt[i]) ∧
    (s.cur.toNat ≠ 623 → t.draws = s.draws)

/-- 42 §2: `NEXT` never reads `mt[0]` within an epoch: another word there changes neither the response nor
anything else. At `cur` = 623 that is said of everything but the data, which the spec leaves open
(42 R97, R98; entry 5). -/
def Obligations.NextNeverReadsWordZero : Prop :=
  (∀ (s t : State) (w : Word), s.cur.toNat < 623 → exec .next s = .next t →
    exec .next { s with mt := s.mt.set 0 w } = .next { t with mt := t.mt.set 0 w }) ∧
  (∀ (s : State) (w : Word), s.cur.toNat = 623 → ∃ t u, exec .next s = .next t ∧
    exec .next { s with mt := s.mt.set 0 w } = .next u ∧ u.mt = t.mt.set 0 w ∧ u.cur = t.cur ∧
    u.fault = t.fault ∧ u.slot.map Response.err = t.slot.map Response.err ∧
    u.slot.map Response.defined = t.slot.map Response.defined)

/-- 42 R102: `NEXT` behaves the same whatever FAULT holds (the data of an index-624 read is a free
value, of which nothing is said). -/
def Obligations.NextIgnoresFault : Prop :=
  ∀ (s : State) (f : FaultReg), ∃ t u, exec .next s = .next t ∧
    exec .next { s with fault := f } = .next u ∧ u.mt = t.mt ∧ u.cur = t.cur ∧
    u.slot.map Response.err = t.slot.map Response.err ∧
    u.slot.map Response.defined = t.slot.map Response.defined

/-- 42 R103: the phase transitions of `NEXT`. -/
def Obligations.NextPhaseTransitions : Prop :=
  ∀ s : State, ∃ t, exec .next s = .next t ∧
    (s.cur.toNat < 623 → s.phase = .ready ∧ t.phase = .ready ∧ t.cur.toNat = s.cur.toNat + 1) ∧
    (s.cur.toNat = 623 → s.phase = .ready ∧ t.phase = .exhausted ∧ t.cur.toNat = 624 ∧
      t.slot.map Response.err = some true) ∧
    (s.phase = .exhausted → t.phase = .ready ∧ t.mt = twistWords s.mt ∧ t.cur.toNat = 1)

/-- 42 R98 (the open parameter `IDX624_READ`): under `FAULT` the read raises OOB and answers the free
value; under a replacement `idx624 : (mt, FAULT) -> (u32, err)` it answers what that gives. In both
`mt` and `cur` stay, and the model uses `FAULT`. -/
def Obligations.Idx624ReadIsAParameter : Prop :=
  idx624Read = .fault ∧
  (∀ s : State, s.readIdx624 .fault =
    { s with fault := s.fault ||| 0b01#2, slot := some ⟨Config.draw s.draws, true⟩,
             busyWith := none, draws := s.draws + 1 }) ∧
  (∀ (f : StateArray → FaultReg → Word × Bool) (s : State), s.readIdx624 (.evidence f) =
    { s with slot := some ⟨(f s.mt s.fault).1, (f s.mt s.fault).2⟩, busyWith := none })

/-! ## ILLEGAL, responses, FAULT -/

/-- 30 R61: `ILLEGAL` completes in every state: FAULT.ILL, response (0, 1), nothing else; every word
with op = 0b11 is it. -/
def Obligations.IllegalCompletes : Prop :=
  (∀ s : State, exec .illegal s = .next
    { s with fault := s.fault ||| 0b10#2, slot := some ⟨0#32, true⟩, busyWith := none }) ∧
  (∀ d : Word, decode (commandWord 0b11#2 d) = .illegal) ∧ decode 0x300000000#34 = .illegal

/-- 30 R62: every command, in every state, completes with one response: the table. -/
def Obligations.EveryCommandAnswers : Prop :=
  ∀ (i : Instr) (s : State), ∃ t r, exec i s = .next t ∧ t.slot = some r ∧ t.busy = false ∧
    match i with
    | .next =>
      if s.cur.toNat = 623 then r.err = true
      else ∃ (k : Nat) (h : k < 624), 1 ≤ k ∧ k = t.cur.toNat ∧ r = ⟨temper t.mt[k], false⟩
    | .seed _ => r = ⟨0x00000000#32, false⟩
    | .seedDefault => r = ⟨0x00000000#32, false⟩
    | .illegal => r = ⟨0x00000000#32, true⟩

/-- 60 R104: the causes. A command changes FAULT by setting OOB (a `NEXT` that takes the cursor to 624)
or ILL (opcode 3), and by nothing else; outside commands only reset changes it. -/
def Obligations.FaultCauses : Prop :=
  causeCode .oob = 0b01#2 ∧ causeCode .ill = 0b10#2 ∧
  (∀ (i : Instr) (s t : State), exec i s = .next t →
    t.fault = s.fault |||
      (if i = .illegal then causeCode .ill
       else if i = .next ∧ s.cur.toNat = 623 then causeCode .oob else 0b00#2)) ∧
  (∀ s t : State, step s = .next t → (∀ w, s.move ≠ .run w) → s.move ≠ .reset → t.fault = s.fault)

/-- 60 R110: a command raises at most one cause, OOB only from `NEXT` and ILL only from opcode 3;
reset has priority over everything. -/
def Obligations.OneCauseAndResetFirst : Prop :=
  (∀ (i : Instr) (s t : State), exec i s = .next t → s.fault = 0b00#2 →
    t.fault ≠ 0b11#2 ∧ (faultOob t.fault = true → i = .next) ∧
      (faultIll t.fault = true → i = .illegal)) ∧
  (∀ s t : State, s.ports.rst = true → step s = .next t →
    s.move = .reset ∧ t.busyWith = none ∧ t.slot = none)

/-- 60 §3: FAULT bits are sticky: no step without reset clears one; and the engine goes on. -/
def Obligations.FaultBitsAreSticky : Prop :=
  ∀ s : State, s.ports.rst = false → ∃ t, step s = .next t ∧ s.fault &&& t.fault = s.fault

/-- Frame of `ILLEGAL`: the array, the cursor, the host's coming levels, the draw counter and FAULT.OOB
are unchanged. -/
def Obligations.IllegalFrame : Prop :=
  ∀ s t : State, exec .illegal s = .next t →
    (∀ (i : Nat) (h : i < 624), t.mt[i] = s.mt[i]) ∧ t.cur = s.cur ∧ t.inputs = s.inputs ∧
      t.draws = s.draws ∧ faultOob t.fault = faultOob s.fault

/-! ## Encoding and the assembler -/

/-- 30 R59: the decoder, case by case. -/
def Obligations.DecodeByOpcode : Prop :=
  ∀ w : CommandWord,
    (w.extractLsb' 32 2 = 0b00#2 → decode w = .next) ∧
    (w.extractLsb' 32 2 = 0b01#2 → decode w = .seed (w.extractLsb' 0 32)) ∧
    (w.extractLsb' 32 2 = 0b10#2 → decode w = .seedDefault) ∧
    (w.extractLsb' 32 2 = 0b11#2 → decode w = .illegal)

/-- 30 R58: the ignored bits change nothing: neither what a word decodes to nor the step that runs it;
an encoder writes them as zero. For `NEXT` at `cur` = 623 the two steps are compared in all but the
data, which the spec leaves open (42 R97). -/
def Obligations.IgnoredBitsAreIgnored : Prop :=
  (∀ (op : BitVec 2) (d e : Word), op ≠ 0b01#2 →
    decode (commandWord op d) = decode (commandWord op e) ∧
    ∀ s : State, s.slot = none → s.ports.rst = false →
      (op ≠ 0b00#2 ∨ s.cur.toNat ≠ 623 →
        step { s with busyWith := some (commandWord op d) } =
          step { s with busyWith := some (commandWord op e) }) ∧
      ∃ t u, step { s with busyWith := some (commandWord op d) } = .next t ∧
        step { s with busyWith := some (commandWord op e) } = .next u ∧
        u.mt = t.mt ∧ u.cur = t.cur ∧ u.fault = t.fault ∧ u.busyWith = t.busyWith ∧
        u.slot.map Response.err = t.slot.map Response.err ∧
        u.slot.map Response.defined = t.slot.map Response.defined) ∧
  (∀ i : Instr, (∀ v, i ≠ .seed v) → (encode i).extractLsb' 0 32 = 0#32)

/-- Decode and encode agree: decoding an encoded command gives it back, for every command and operand;
encoding a decoded word gives the word back but for the ignored bits. -/
def Obligations.DecodeEncodeRoundTrip : Prop :=
  (∀ i : Instr, decode (encode i) = i) ∧
  (∀ w : CommandWord, encode (decode w) =
    if w.extractLsb' 32 2 = 0b01#2 then w else w &&& 0x300000000#34)

/-- 30 R72: the worked encodings. -/
def Obligations.WorkedEncodings : Prop :=
  encode .next = 0x000000000#34 ∧ decode 0x000000000#34 = .next ∧
  encode (.seed 5489#32) = 0x100001571#34 ∧ decode 0x100001571#34 = .seed 5489#32 ∧
  encode (.seed 0#32) = 0x100000000#34 ∧ decode 0x100000000#34 = .seed 0#32 ∧
  encode (.seed 0xFFFFFFFF#32) = 0x1FFFFFFFF#34 ∧ decode 0x1FFFFFFFF#34 = .seed 0xFFFFFFFF#32 ∧
  assembleCommand .seedDefault = some 0x200000000#34 ∧
  assembleCommand .seedAbsent = some 0x200000000#34 ∧ decode 0x200000000#34 = .seedDefault ∧
  assembleCommand (.word34 0x300000000) = some 0x300000000#34 ∧ decode 0x300000000#34 = .illegal ∧
  assembleCommand (.word34 0x0DEADBEEF) = some 0x0DEADBEEF#34 ∧ decode 0x0DEADBEEF#34 = .next

/-- 30 R70: the encodings of the four kinds of line. -/
def Obligations.AssemblerEncodings : Prop :=
  assembleCommand .next = some 0x000000000#34 ∧
  (∀ v : Nat, v ≤ 0xFFFFFFFF → assembleCommand (.seed v) = some (BitVec.ofNat 34 (0x100000000 + v))) ∧
  assembleCommand .seedDefault = some 0x200000000#34 ∧
  (∀ w : Nat, w < 2 ^ 34 → assembleCommand (.word34 w) = some (BitVec.ofNat 34 w))

/-- 30 R71 and the immediate ranges of R69: `SEED` with no operand is `SEED_DEFAULT`, with the effect of `SEED
5489` and another encoding; a `.rep` block stands for its lines n times; ignored data is written as
zero; an immediate out of range is refused. That the lines of a `.rep 0` block are not checked is the
model's choice (entry 17). -/
def Obligations.AssemblerPseudoAndRefusals : Prop :=
  assembleCommand .seedAbsent = assembleCommand .seedDefault ∧
  assembleCommand .seedAbsent ≠ assembleCommand (.seed 5489) ∧
  (∀ s : State, exec .seedDefault s = exec (.seed 5489#32) s) ∧
  (∀ (n : Nat) (body : List AsmCommand) (rest : List AsmItem),
    assembleProgram (.rep n body :: rest) =
      assembleProgram ((List.replicate n body).flatten.map AsmItem.line ++ rest)) ∧
  (∀ (c : AsmCommand) (w : CommandWord), assembleCommand c = some w →
    (∀ n, c ≠ .seed n) → (∀ n, c ≠ .word34 n) → w.extractLsb' 0 32 = 0#32) ∧
  (∀ n : Nat, 0xFFFFFFFF < n → assembleCommand (.seed n) = none) ∧
  (∀ n : Nat, 2 ^ 34 ≤ n → assembleCommand (.word34 n) = none)

/-! ## The step and the ports -/

/-- A step runs the decoded command: with a command in progress, no response waiting and no reset, the
step is `exec` of the decoded word, with the input levels of this step used up (`busyWith` and `inputs`
are the model's way to hold a command in progress and the host: entries 2 and 3). -/
def Obligations.StepRunsTheDecodedCommand : Prop :=
  ∀ (s : State) (w : CommandWord), s.busyWith = some w → s.slot = none → s.ports.rst = false →
    step s = exec (decode w) { s with inputs := s.inputs.tail }

/-- 10 §8: the values of the output ports. That the reset initialisation is complete between any two
steps, so that `cmd_ready` need not name it, is the model's choice (entry 11). -/
def Obligations.PortValues : Prop :=
  (∀ s : State, s.portsOut.cmdReady = (!s.busy && !s.portsOut.rspValid) ∧
    s.portsOut.rspValid = s.slot.isSome ∧
    (∀ r, s.slot = some r → s.portsOut.rspData = some r.data ∧ s.portsOut.rspErr = some r.err) ∧
    s.portsOut.fault = s.fault) ∧
  (∀ (w : CommandWord) (s : State), (s.accept w).busy = true) ∧
  (∀ (d : Word) (e : Bool) (s : State), (s.respond d e).busy = false)

/-- 30 §4: a word is accepted exactly at a step with `cmd_valid` = 1 and `cmd_ready` = 1 (and no
reset), and it is the one the ports hold then. The host's levels, one entry a step, and the order of
the moves are the model's (entries 3 and 8). -/
def Obligations.AcceptanceAtTheHandshake : Prop :=
  ∀ s : State, s.ports.rst = false →
    (s.ports.cmdValid = true → s.cmdReady = true →
      step s = .next
        { s with inputs := s.inputs.tail, busyWith := some (s.ports.cmdOp ++ s.ports.cmdData) }) ∧
    (∀ (t : State) (w : CommandWord), step s = .next t → t.busyWith = some w → s.busyWith = none →
      s.ports.cmdValid = true ∧ s.cmdReady = true ∧ w = s.ports.cmdOp ++ s.ports.cmdData)

/-- 30 R64: `respond` fills the slot; the slot holds its pair until `rsp_ready` is 1, when the host takes
it and it empties; without reset a response is never dropped or overwritten. -/
def Obligations.SlotHoldsUntilTaken : Prop :=
  (∀ (d : Word) (e : Bool) (s : State), (s.respond d e).slot = some ⟨d, e⟩ ∧
    (s.respond d e).rspValid = true) ∧
  (∀ (s : State) (r : Response), s.slot = some r → s.ports.rst = false →
    (s.ports.rspReady = false → step s = .next { s with inputs := s.inputs.tail } ∧
      s.delivered = []) ∧
    (s.ports.rspReady = true → step s = .next { s with inputs := s.inputs.tail, slot := none } ∧
      s.delivered = [r]))

/-- 30 R65: at most one command is outstanding: while a command is in progress or a response waits,
`cmd_ready` is 0 and nothing is accepted, and only taking a response or reset makes the engine
ready again. -/
def Obligations.OneCommandOutstanding : Prop :=
  ∀ s t : State, s.busy = true ∨ s.rspValid = true → step s = .next t →
    s.cmdReady = false ∧ (∀ w, s.move ≠ .accept w) ∧
      (t.cmdReady = true → s.move = .take ∨ s.move = .reset)

/-- 60 §7: between commands the engine is idle: with nothing presented it holds everything, and
`cmd_ready` is 1 (only the used-up port levels go). -/
def Obligations.IdleEngineHoldsState : Prop :=
  ∀ s : State, s.busyWith = none → s.slot = none → s.ports.rst = false →
    s.ports.cmdValid = false →
    s.cmdReady = true ∧ step s = .next { s with inputs := s.inputs.tail }

/-- 70 R126: a host that never raises `rsp_ready` stalls the engine: for as many steps as it likes the
response waits, nothing is accepted or delivered, and no FAULT bit is set. -/
def Obligations.UntakenResponseStalls : Prop :=
  ∀ (k : Nat) (s : State) (r : Response), s.slot = some r →
    (∀ p ∈ s.inputs.take k, p.rst = false ∧ p.rspReady = false) →
    observe k s = some ⟨[], [], { s with inputs := s.inputs.drop k }⟩

/-- A host that keeps presenting a word, ready to take responses, has it accepted within four steps,
whatever the engine was doing. A step is the model's interaction, not a cycle (entry 1). -/
def Obligations.HeldCommandIsAccepted : Prop :=
  ∀ (s : State) (p : PortsIn) (rest : List PortsIn), p.rst = false → p.cmdValid = true →
    p.rspReady = true → s.inputs = p :: p :: p :: p :: rest →
    ∃ (k : Nat) (r : Run), k < 4 ∧ observe k s = some r ∧
      r.final.move = .accept (p.cmdOp ++ p.cmdData)

/-- 30 §4, 70 §3: while a host that presents a word keeps its duty, the first word the engine accepts is
that one, and until then the host presents it still. A host that holds a word at the port, and one that
issues words one at a time, keep the duty. Steps and lists of levels are the model's (entries 1, 3). -/
def Obligations.PresentedCommandIsKept : Prop :=
  (∀ (k : Nat) (s : State) (r : Run), s.ports.cmdValid = true → hostKeepsDuty k s = true →
    observe k s = some r →
    (r.commands = [] → r.final.ports.cmdValid = true ∧ r.final.ports.word = s.ports.word) ∧
    (∀ w, r.commands.head? = some w → w = s.ports.word)) ∧
  (∀ (k : Nat) (s : State) (p : PortsIn), s.inputs = List.replicate (k + 1) p →
    hostKeepsDuty k s = true) ∧
  (∀ (ws : List CommandWord) (s : State), s.cmdReady = true →
    hostKeepsDuty (3 * ws.length) { s with inputs := hostScript ws } = true)

/-- 60 R109: a run from any state with the invariant that ends with no FAULT bit set delivered no
response with the error bit: no command was illegal, no read went to index 624. -/
def Obligations.CleanRunDeliversNoError : Prop :=
  ∀ (k : Nat) (s : State) (r : Run), s.Inv → observe k s = some r → ¬ r.final.faulted →
    ∀ q ∈ r.responses, q.err = false

/-- 60 §3: a run ends with no FAULT bit set exactly when it began so and no step of it set one; so a safe
run holds no fault anywhere. -/
def Obligations.CleanRunSetsNoFault : Prop :=
  ∀ (k : Nat) (s : State) (r : Run), observe k s = some r →
    (¬ r.final.faulted ↔ ¬ s.faulted ∧ noFaultSet k s = true)

/-! ## Runs -/

/-- 70 §1 and §6: a reset launches a run: the step leaves the launch state with the host's coming levels
(and the model's draw counter, entry 5). No run holds a reset (entry 23). -/
def Obligations.ResetLaunchesARun : Prop :=
  (∀ s : State, s.ports.rst = true →
    step s = .next (launch s.inputs.tail s.draws) ∧ ∀ k, observe (k + 1) s = none) ∧
  (∀ (k : Nat) (s : State) (r : Run), observe k s = some r → ∀ p ∈ s.inputs.take k, p.rst = false)

/-- 70 §6, 30 §4: a run is its accepted commands. From an idle engine, under ANY host: each accepted
command has its response taken, or in the slot, or is in progress; and a run that is over gave the
responses, and came to the `(mt, cur, FAULT)`, of its commands executed one after the other. Both sides
describe one run, so a free value (entry 5) is the same in both. -/
def Obligations.RunIsItsCommands : Prop :=
  ∀ (k : Nat) (s : State) (r : Run), s.cmdReady = true → observe k s = some r →
    r.commands.length =
      r.responses.length + r.final.rspValid.toNat + r.final.busy.toNat ∧
    (r.over = true → ∃ t, transact (r.commands.map decode) s = some (r.responses, t) ∧
      r.final.mt = t.mt ∧ r.final.cur = t.cur ∧ r.final.fault = t.fault)

/-- 42 R101 within 60 R109: the claim about the stream of seed v. A safe run of `SEED v` and n `NEXT`
commands has n at most 623 and returned the tempered words 1..n of the twisted initial array; its
end state is that array and cursor n. -/
def Obligations.StreamOfSeed : Prop :=
  ∀ (v : Word) (a : StateArray), StreamClaim v fun r =>
    ∀ n, r.commands.map decode = .seed v :: List.replicate n .next →
      ∃ hn : n ≤ 623,
        r.responses = ⟨0#32, false⟩ :: List.ofFn (fun i : Fin n =>
          ⟨temper ((twistWords (initWords v a))[i.val + 1]'(by omega)), false⟩) ∧
        r.final.mt = twistWords (initWords v a) ∧ r.final.cur.toNat = n

/-! ## Invariants -/

/-- Every step keeps the invariant `State.Inv`, from every state that has it. -/
def Obligations.StepKeepsInvariant : Prop :=
  ∀ s t : State, s.Inv → step s = .next t → t.Inv

/-- The reset state, whatever the host will drive, has the invariant. -/
def Obligations.ResetHasInvariant : Prop :=
  ∀ (inputs : List PortsIn) (draws : Nat), (launch inputs draws).Inv

/-- 10 R24: the cursor stays in 0..624: 0 after every twist, at most 623 before the increment of `NEXT`;
so the test `cur >= 624` only fires at 624. -/
def Obligations.CursorStaysInRange : Prop :=
  (∀ s : State, s.twist.cur = 0#10) ∧
  (∀ s : State, s.refreshIfExhausted.cur.toNat ≤ 623 ∧
    s.refreshIfExhausted.incrementCursor.cur.toNat ≤ 624) ∧
  (∀ s t : State, s.cur.toNat ≤ 624 → step s = .next t →
    t.cur.toNat ≤ 624 ∧ (624 ≤ t.cur.toNat → t.cur.toNat = 624))

/-- Every step keeps the array a number of twists of some seed's initialisation. -/
def Obligations.StepKeepsArraySeeded : Prop :=
  ∀ s t : State, s.ArraySeeded → step s = .next t → t.ArraySeeded

/-- The array after reset is so. -/
def Obligations.ResetArraySeeded : Prop :=
  ∀ (inputs : List PortsIn) (draws : Nat), (launch inputs draws).ArraySeeded

/-- 10 §2 and §3, 41 §1: what writes the array and the cursor: reset, the seeding commands, and `NEXT`
(the array only when exhausted). Nothing else does. -/
def Obligations.WritersOfArrayAndCursor : Prop :=
  ∀ s t : State, step s = .next t → t.mt ≠ s.mt ∨ t.cur ≠ s.cur →
    s.move = .reset ∨
    ∃ w, s.move = .run w ∧ ((∃ v, decode w = .seed v) ∨ decode w = .seedDefault ∨
      (decode w = .next ∧ (t.mt ≠ s.mt → s.phase = .exhausted)))

/-! ## Streams -/

/-- 42 R101: the epochs. From any state a seeding of v leaves (`SEED v`, `SEED_DEFAULT`, reset: cursor
0, the array `Twist(Init(v))`), the n-th `NEXT`, n = 624 e + k with k in 1..624, leaves `cur` = k and
the array after e + 1 twists; it returns `Temper(mt[k])` without error for k <= 623, and some data
with the error bit for k = 624. For e >= 1 the values follow a recorded OOB: it is what the engine does,
as R101 says (60 R108; entry 20); under the premise of 60 R109 only those of e = 0 may be claimed of a
run, which `StreamOfSeed` does. -/
def Obligations.EpochStructure : Prop :=
  ∀ (v : Word) (a : StateArray) (s : State), s.cur = 0#10 → s.mt = twistWords (initWords v a) →
    ∀ (e k : Nat), 1 ≤ k → k ≤ 624 →
    ∃ (rs : List Response) (t : State),
      transact (List.replicate (624 * e + k) .next) s = some (rs, t) ∧
      rs.length = 624 * e + k ∧ t.cur.toNat = k ∧
      t.mt = twistWords^[e + 1] (initWords v a) ∧
      (∀ h : k < 624, rs.getLast? = some ⟨temper t.mt[k], false⟩) ∧
      (k = 624 → ∃ d, rs.getLast? = some ⟨d, true⟩)

/-- 41 R91: after any seeding (which leaves the cursor at 0) the refresh runs again exactly at `NEXT`
number 624 k + 1, k >= 1: the engine is exhausted after n calls exactly when n is a positive multiple
of 624, and the next `NEXT` twists exactly then. -/
def Obligations.RefreshCadence : Prop :=
  ∀ (s : State) (n : Nat), s.cur = 0#10 → ∃ (rs : List Response) (t u : State),
    transact (List.replicate n .next) s = some (rs, t) ∧
    (t.phase = .exhausted ↔ ∃ k, 1 ≤ k ∧ n = 624 * k) ∧
    exec .next t = .next u ∧
    u.mt = if t.phase = .exhausted then twistWords t.mt else t.mt

/-- 40 R80: two engines in any states, given the same seed, answer alike for every number of `NEXT`
calls: the same error bits, the same data where it is defined (the free value at index 624 is not). -/
def Obligations.SameSeedSameResponses : Prop :=
  ∀ (v : Word) (n : Nat) (s r : State), ∃ (rs qs : List Response) (t u : State),
    transact (.seed v :: List.replicate n .next) s = some (rs, t) ∧
    transact (.seed v :: List.replicate n .next) r = some (qs, u) ∧
    rs.map Response.defined = qs.map Response.defined ∧ t.mt = u.mt ∧ t.cur = u.cur

/-- 30 §4, transaction level: under a host that presents words one at a time and takes each response,
the machine at its ports delivers the responses, and reaches the state, of the commands executed one
after the other. Three steps a command are the model's (entries 1 and 3). -/
def Obligations.PortsRefineTransactions : Prop :=
  ∀ (ws : List CommandWord) (s : State), s.cmdReady = true → s.inputs = [] →
    observe (3 * ws.length) { s with inputs := hostScript ws } =
      (transact (ws.map decode) s).map (fun o => ⟨ws, o.1, o.2⟩)
end

