-- ==== Sys2Proof/Laws/Decode.lean ====
section
/-! SUPPORT. The two fields of a command word are what it was built from. -/

namespace Sys2Proof

@[simp] theorem opField_commandWord (op : BitVec 2) (d : Word) : opField (commandWord op d) = op := by
  simpa [opField, commandWord] using BitVec.extractLsb'_append_eq_left (a := op) (b := d)

@[simp] theorem dataField_commandWord (op : BitVec 2) (d : Word) : dataField (commandWord op d) = d := by
  simpa [dataField, commandWord] using BitVec.extractLsb'_append_eq_right (a := op) (b := d)

@[simp] theorem decode_commandWord (op : BitVec 2) (d : Word) :
    decode (commandWord op d) = decodeFields op d := by
  simp [decode]

/-- `word = op * 2^32 + data` (30_encoding R55). -/
theorem commandWord_toNat (op : BitVec 2) (d : Word) :
    (commandWord op d).toNat = op.toNat * 2 ^ 32 + d.toNat := by
  simp only [commandWord, BitVec.toNat_append]
  rw [← Nat.shiftLeft_add_eq_or_of_lt d.isLt, Nat.shiftLeft_eq]

end Sys2Proof
end

