-- ==== Sys2Proof/Laws/State.lean ====
section
/-! SUPPORT. One lemma per field of State per update: what each named operation leaves in it. -/

namespace Sys2Proof.Machine

@[simp] theorem State.advance_mt (s : State) : s.advance.mt = s.mt := rfl
@[simp] theorem State.advance_cur (s : State) : s.advance.cur = s.cur := rfl
@[simp] theorem State.advance_fault (s : State) : s.advance.fault = s.fault := rfl
@[simp] theorem State.advance_busyWith (s : State) : s.advance.busyWith = s.busyWith := rfl
@[simp] theorem State.advance_slot (s : State) : s.advance.slot = s.slot := rfl
@[simp] theorem State.advance_inputs (s : State) : s.advance.inputs = s.inputs.tail := rfl
@[simp] theorem State.advance_draws (s : State) : s.advance.draws = s.draws := rfl

@[simp] theorem State.initArray_mt (v : Word) (s : State) : (s.initArray v).mt = initWords v s.mt := rfl
@[simp] theorem State.initArray_cur (v : Word) (s : State) : (s.initArray v).cur = s.cur := rfl
@[simp] theorem State.initArray_fault (v : Word) (s : State) : (s.initArray v).fault = s.fault := rfl
@[simp] theorem State.initArray_busyWith (v : Word) (s : State) : (s.initArray v).busyWith = s.busyWith := rfl
@[simp] theorem State.initArray_slot (v : Word) (s : State) : (s.initArray v).slot = s.slot := rfl
@[simp] theorem State.initArray_inputs (v : Word) (s : State) : (s.initArray v).inputs = s.inputs := rfl
@[simp] theorem State.initArray_draws (v : Word) (s : State) : (s.initArray v).draws = s.draws := rfl

@[simp] theorem State.twist_mt (s : State) : s.twist.mt = twistWords s.mt := rfl
@[simp] theorem State.twist_cur (s : State) : s.twist.cur = 0#10 := rfl
@[simp] theorem State.twist_fault (s : State) : s.twist.fault = s.fault := rfl
@[simp] theorem State.twist_busyWith (s : State) : s.twist.busyWith = s.busyWith := rfl
@[simp] theorem State.twist_slot (s : State) : s.twist.slot = s.slot := rfl
@[simp] theorem State.twist_inputs (s : State) : s.twist.inputs = s.inputs := rfl
@[simp] theorem State.twist_draws (s : State) : s.twist.draws = s.draws := rfl

@[simp] theorem State.seedWith_mt (v : Word) (s : State) : (s.seedWith v).mt = twistWords (initWords v s.mt) := rfl
@[simp] theorem State.seedWith_cur (v : Word) (s : State) : (s.seedWith v).cur = 0#10 := rfl
@[simp] theorem State.seedWith_fault (v : Word) (s : State) : (s.seedWith v).fault = s.fault := rfl
@[simp] theorem State.seedWith_busyWith (v : Word) (s : State) : (s.seedWith v).busyWith = s.busyWith := rfl
@[simp] theorem State.seedWith_slot (v : Word) (s : State) : (s.seedWith v).slot = s.slot := rfl
@[simp] theorem State.seedWith_inputs (v : Word) (s : State) : (s.seedWith v).inputs = s.inputs := rfl
@[simp] theorem State.seedWith_draws (v : Word) (s : State) : (s.seedWith v).draws = s.draws := rfl

@[simp] theorem State.raise_mt (c : Cause) (s : State) : (s.raise c).mt = s.mt := rfl
@[simp] theorem State.raise_cur (c : Cause) (s : State) : (s.raise c).cur = s.cur := rfl
@[simp] theorem State.raise_fault (c : Cause) (s : State) : (s.raise c).fault = raiseIn c s.fault := rfl
@[simp] theorem State.raise_busyWith (c : Cause) (s : State) : (s.raise c).busyWith = s.busyWith := rfl
@[simp] theorem State.raise_slot (c : Cause) (s : State) : (s.raise c).slot = s.slot := rfl
@[simp] theorem State.raise_inputs (c : Cause) (s : State) : (s.raise c).inputs = s.inputs := rfl
@[simp] theorem State.raise_draws (c : Cause) (s : State) : (s.raise c).draws = s.draws := rfl

@[simp] theorem State.respond_mt (d : Word) (e : Bool) (s : State) : (s.respond d e).mt = s.mt := rfl
@[simp] theorem State.respond_cur (d : Word) (e : Bool) (s : State) : (s.respond d e).cur = s.cur := rfl
@[simp] theorem State.respond_fault (d : Word) (e : Bool) (s : State) : (s.respond d e).fault = s.fault := rfl
@[simp] theorem State.respond_busyWith (d : Word) (e : Bool) (s : State) : (s.respond d e).busyWith = none := rfl
@[simp] theorem State.respond_slot (d : Word) (e : Bool) (s : State) : (s.respond d e).slot = some ⟨d, e⟩ := rfl
@[simp] theorem State.respond_inputs (d : Word) (e : Bool) (s : State) : (s.respond d e).inputs = s.inputs := rfl
@[simp] theorem State.respond_draws (d : Word) (e : Bool) (s : State) : (s.respond d e).draws = s.draws := rfl

@[simp] theorem State.afterDraw_mt (s : State) : s.afterDraw.mt = s.mt := rfl
@[simp] theorem State.afterDraw_cur (s : State) : s.afterDraw.cur = s.cur := rfl
@[simp] theorem State.afterDraw_fault (s : State) : s.afterDraw.fault = s.fault := rfl
@[simp] theorem State.afterDraw_busyWith (s : State) : s.afterDraw.busyWith = s.busyWith := rfl
@[simp] theorem State.afterDraw_slot (s : State) : s.afterDraw.slot = s.slot := rfl
@[simp] theorem State.afterDraw_inputs (s : State) : s.afterDraw.inputs = s.inputs := rfl
@[simp] theorem State.afterDraw_draws (s : State) : s.afterDraw.draws = s.draws + 1 := rfl

@[simp] theorem State.incrementCursor_mt (s : State) : s.incrementCursor.mt = s.mt := rfl
@[simp] theorem State.incrementCursor_cur (s : State) : s.incrementCursor.cur = s.cur + 1#10 := rfl
@[simp] theorem State.incrementCursor_fault (s : State) : s.incrementCursor.fault = s.fault := rfl
@[simp] theorem State.incrementCursor_busyWith (s : State) : s.incrementCursor.busyWith = s.busyWith := rfl
@[simp] theorem State.incrementCursor_slot (s : State) : s.incrementCursor.slot = s.slot := rfl
@[simp] theorem State.incrementCursor_inputs (s : State) : s.incrementCursor.inputs = s.inputs := rfl
@[simp] theorem State.incrementCursor_draws (s : State) : s.incrementCursor.draws = s.draws := rfl

@[simp] theorem State.accept_mt (w : CommandWord) (s : State) : (s.accept w).mt = s.mt := rfl
@[simp] theorem State.accept_cur (w : CommandWord) (s : State) : (s.accept w).cur = s.cur := rfl
@[simp] theorem State.accept_fault (w : CommandWord) (s : State) : (s.accept w).fault = s.fault := rfl
@[simp] theorem State.accept_busyWith (w : CommandWord) (s : State) : (s.accept w).busyWith = some w := rfl
@[simp] theorem State.accept_slot (w : CommandWord) (s : State) : (s.accept w).slot = s.slot := rfl
@[simp] theorem State.accept_inputs (w : CommandWord) (s : State) : (s.accept w).inputs = s.inputs := rfl
@[simp] theorem State.accept_draws (w : CommandWord) (s : State) : (s.accept w).draws = s.draws := rfl

@[simp] theorem State.takeResponse_mt (s : State) : s.takeResponse.mt = s.mt := rfl
@[simp] theorem State.takeResponse_cur (s : State) : s.takeResponse.cur = s.cur := rfl
@[simp] theorem State.takeResponse_fault (s : State) : s.takeResponse.fault = s.fault := rfl
@[simp] theorem State.takeResponse_busyWith (s : State) : s.takeResponse.busyWith = s.busyWith := rfl
@[simp] theorem State.takeResponse_slot (s : State) : s.takeResponse.slot = none := rfl
@[simp] theorem State.takeResponse_inputs (s : State) : s.takeResponse.inputs = s.inputs := rfl
@[simp] theorem State.takeResponse_draws (s : State) : s.takeResponse.draws = s.draws := rfl

@[simp] theorem State.applyReset_mt (s : State) : s.applyReset.mt = twistWords (initWords defaultSeed s.mt) := rfl
@[simp] theorem State.applyReset_cur (s : State) : s.applyReset.cur = 0#10 := rfl
@[simp] theorem State.applyReset_fault (s : State) : s.applyReset.fault = 0b00#2 := rfl
@[simp] theorem State.applyReset_busyWith (s : State) : s.applyReset.busyWith = none := rfl
@[simp] theorem State.applyReset_slot (s : State) : s.applyReset.slot = none := rfl
@[simp] theorem State.applyReset_inputs (s : State) : s.applyReset.inputs = s.inputs := rfl
@[simp] theorem State.applyReset_draws (s : State) : s.applyReset.draws = s.draws := rfl

end Sys2Proof.Machine
end

