-- ==== Sys2Proof/Laws/Words.lean ====
section
/-! SUPPORT. `Init` and `Twist` word by word: each word of the array they leave as a function of an
index, in a form the kernel evaluates quickly (the in-place loops take one pass of the array per
write). The in-place definitions stay the model; these lemmas are how a proof reads a word of them. -/

namespace Sys2Proof.Machine

/-- A word of the array by a plain number (0 outside, never used there: every lemma has the bound). -/
def wordAt (a : StateArray) (i : Nat) : Word := if h : i < 624 then a[i]'h else 0#32

theorem wordAt_eq (a : StateArray) (i : Nat) (h : i < 624) : wordAt a i = a[i]'h := by
  simp [wordAt, h]

/-- Two arrays with the same words are equal. -/
theorem stateArray_ext (a b : StateArray) (h : ∀ i < 624, wordAt a i = wordAt b i) : a = b := by
  ext i hi
  rw [← wordAt_eq a i hi, ← wordAt_eq b i hi, h i hi]

/-! ## Init -/

/-- The word `Init(v)` writes at an index, from the one before it. -/
def initSeq (v : Word) : Nat → Word
  | 0 => v
  | i + 1 => initWord (initSeq v i) (i + 1)

theorem initFrom_getElem (v : Word) (l : List Word) (i k : Nat)
    (h : k < (initFrom (i + 1) (initSeq v i) l).length) :
    (initFrom (i + 1) (initSeq v i) l)[k] = initSeq v (i + 1 + k) := by
  induction l generalizing i k with
  | nil => simp [initFrom] at h
  | cons a l ih =>
    cases k with
    | zero => simp [initFrom, initSeq]
    | succ k =>
      have := ih (i + 1) k (by simpa [initFrom, initSeq] using h)
      rw [show i + 1 + (k + 1) = i + 1 + 1 + k by omega, ← this]
      simp [initFrom, initSeq]

/-- Every word `Init(v)` leaves (40 R73): it depends on `v` and the index alone. -/
theorem wordAt_initWords (v : Word) (a : StateArray) (i : Nat) (h : i < 624) :
    wordAt (initWords v a) i = initSeq v i := by
  rw [wordAt_eq _ _ h]
  unfold initWords
  cases i with
  | zero => simp [initSeq]
  | succ i =>
    have hl : i < (initFrom 1 (initSeq v 0) a.toList.tail).length := by
      simp [initFrom_length]; omega
    have := initFrom_getElem v a.toList.tail 0 i hl
    simpa [initSeq, Nat.add_comm] using this

/-! ## Twist -/

theorem twistRange1_getElem_old (n : Nat) (hn : n ≤ 227) (a : StateArray) (k : Nat) (hk : k < 624)
    (h : n ≤ k) : (twistRange1 n hn a)[k] = a[k] := by
  induction n with
  | zero => rfl
  | succ n ih =>
    rw [twistRange1, Vector.getElem_set_ne _ _ (by omega)]
    exact ih (by omega) (by omega)

theorem twistRange1_getElem (n : Nat) (hn : n ≤ 227) (a : StateArray) (j : Nat) (hj : j < n) :
    (twistRange1 n hn a)[j] =
      twistWord (a[j + 397]'(by omega)) (a[j]'(by omega)) (a[j + 1]'(by omega)) := by
  induction n with
  | zero => omega
  | succ n ih =>
    rw [twistRange1]
    by_cases hjn : j = n
    · subst hjn
      simp only [Vector.getElem_set_self]
      rw [twistRange1_getElem_old _ _ _ _ _ (by omega), twistRange1_getElem_old _ _ _ _ _ (by omega),
        twistRange1_getElem_old _ _ _ _ _ (by omega)]
    · rw [Vector.getElem_set_ne _ _ (by omega)]
      exact ih (by omega) (by omega)

theorem twistRange2_getElem_other (n : Nat) (hn : n ≤ 396) (b : StateArray) (j : Nat) (hj : j < 624)
    (ho : j < 227 ∨ 227 + n ≤ j) : (twistRange2 n hn b)[j] = b[j] := by
  induction n with
  | zero => rfl
  | succ n ih =>
    rw [twistRange2, Vector.getElem_set_ne _ _ (by omega)]
    exact ih (by omega) (by omega)

theorem twistRange2_getElem (n : Nat) (hn : n ≤ 396) (b : StateArray) (j : Nat) (hj : j < 623)
    (h1 : 227 ≤ j) (h2 : j < 227 + n) :
    (twistRange2 n hn b)[j] = twistWord ((twistRange2 n hn b)[j - 227]'(by omega)) b[j] b[j + 1] := by
  induction n with
  | zero => omega
  | succ n ih =>
    rw [twistRange2]
    rw [Vector.getElem_set_ne (j := j - 227) _ _ (by omega)]
    by_cases hjn : j = 227 + n
    · subst hjn
      simp [twistRange2_getElem_other n (by omega) b (227 + n) (by omega) (by omega),
        twistRange2_getElem_other n (by omega) b (227 + n + 1) (by omega) (by omega)]
    · rw [Vector.getElem_set_ne _ _ (by omega)]
      exact ih (by omega) (by omega)

/-- The word `Twist()` leaves at an index, from the old words `f`. The far word of index i >= 227 is
new, that of index i - 227; so are both words index 623 reads from the low end. -/
def twistSeq (f : Nat → Word) (i : Nat) : Word :=
  if i < 227 then twistWord (f (i + 397)) (f i) (f (i + 1))
  else if i < 454 then
    twistWord (twistWord (f (i - 227 + 397)) (f (i - 227)) (f (i - 227 + 1))) (f i) (f (i + 1))
  else if i < 623 then
    twistWord
      (twistWord (twistWord (f (i - 454 + 397)) (f (i - 454)) (f (i - 454 + 1)))
        (f (i - 227)) (f (i - 227 + 1)))
      (f i) (f (i + 1))
  else
    twistWord (twistWord (twistWord (f 566) (f 169) (f 170)) (f 396) (f 397))
      (f 623) (twistWord (f 397) (f 0) (f 1))

theorem twistSeq_congr (f g : Nat → Word) (hfg : ∀ j < 624, f j = g j) (i : Nat) (h : i < 624) :
    twistSeq f i = twistSeq g i := by
  unfold twistSeq
  split
  · rw [hfg _ (by omega), hfg _ (by omega), hfg _ (by omega)]
  · split
    · rw [hfg _ (by omega), hfg _ (by omega), hfg _ (by omega), hfg i (by omega), hfg _ (by omega)]
    · split
      · rw [hfg (i - 454 + 397) (by omega), hfg (i - 454) (by omega), hfg (i - 454 + 1) (by omega),
          hfg (i - 227) (by omega), hfg (i - 227 + 1) (by omega), hfg i (by omega),
          hfg (i + 1) (by omega)]
      · simp only [hfg _ (show 566 < 624 by omega), hfg _ (show 169 < 624 by omega),
          hfg _ (show 170 < 624 by omega), hfg _ (show 396 < 624 by omega),
          hfg _ (show 397 < 624 by omega), hfg _ (show 623 < 624 by omega),
          hfg _ (show 0 < 624 by omega), hfg _ (show 1 < 624 by omega)]

/-- After range 2: the first 623 words. -/
theorem twistRange2_range1 (a : StateArray) (i : Nat) (h : i < 623) :
    (twistRange2 396 (by omega) (twistRange1 227 (by omega) a))[i] = twistSeq (wordAt a) i := by
  have r1 : ∀ (j : Nat) (hj : j < 227),
      (twistRange2 396 (by omega) (twistRange1 227 (by omega) a))[j] =
        twistWord (wordAt a (j + 397)) (wordAt a j) (wordAt a (j + 1)) := by
    intro j hj
    rw [twistRange2_getElem_other _ _ _ _ _ (by omega), twistRange1_getElem _ _ _ _ hj,
      wordAt_eq a j (by omega), wordAt_eq a (j + 1) (by omega), wordAt_eq a (j + 397) (by omega)]
  have old : ∀ (j : Nat) (hj : j < 624), 227 ≤ j → (twistRange1 227 (by omega) a)[j] = wordAt a j := by
    intro j hj h227
    rw [twistRange1_getElem_old _ _ _ _ _ h227, wordAt_eq a j hj]
  have r2 : ∀ (j : Nat) (hj : j < 623), 227 ≤ j →
      (twistRange2 396 (by omega) (twistRange1 227 (by omega) a))[j] =
        twistWord ((twistRange2 396 (by omega) (twistRange1 227 (by omega) a))[j - 227]'(by omega))
          (wordAt a j) (wordAt a (j + 1)) := by
    intro j hj h227
    rw [twistRange2_getElem _ _ _ _ hj h227 (by omega), old j (by omega) h227,
      old (j + 1) (by omega) (by omega)]
  unfold twistSeq
  simp only [h, if_true]
  split
  · exact r1 i ‹_›
  · split
    · rw [r2 i h (by omega), r1 (i - 227) (by omega)]
    · rw [r2 i h (by omega), r2 (i - 227) (by omega) (by omega),
        r1 (i - 227 - 227) (by omega)]
      simp [show i - 227 - 227 = i - 454 by omega]

/-- Every word `Twist()` leaves (41 R83–R85). -/
theorem wordAt_twistWords (a : StateArray) (i : Nat) (h : i < 624) :
    wordAt (twistWords a) i = twistSeq (wordAt a) i := by
  rw [wordAt_eq _ _ h]
  unfold twistWords twistRange3
  by_cases h623 : i = 623
  · subst h623
    rw [Vector.getElem_set_self, twistRange2_range1 a 396 (by omega), twistRange2_range1 a 0 (by omega)]
    have : (twistRange2 396 (by omega) (twistRange1 227 (by omega) a))[623] = wordAt a 623 := by
      rw [twistRange2_getElem_other _ _ _ _ _ (by omega),
        twistRange1_getElem_old _ _ _ _ _ (by omega), wordAt_eq a 623 h]
    rw [this]
    simp [twistSeq]
  · rw [Vector.getElem_set_ne _ _ (by omega)]
    exact twistRange2_range1 a i (by omega)

/-- The words after a seeding, from the seed alone. -/
theorem wordAt_twist_init (v : Word) (a : StateArray) (i : Nat) (h : i < 624) :
    wordAt (twistWords (initWords v a)) i = twistSeq (initSeq v) i := by
  rw [wordAt_twistWords _ _ h]
  exact twistSeq_congr _ _ (fun j hj => wordAt_initWords v a j hj) i h

end Sys2Proof.Machine
end

