-- ==== Sys2Proof/Laws/Ops.lean ====
section
/-! SUPPORT. For each shared operation, what it can do. -/

namespace Sys2Proof.Machine

/-- Raising keeps every bit that is set (60 R108). -/
theorem raiseIn_sticky (c : Cause) (f : FaultReg) : f &&& raiseIn c f = f := by
  ext i hi; simp [raiseIn]; tauto

/-- After a raise the register is not zero. -/
theorem raiseIn_ne_zero (c : Cause) (f : FaultReg) : raiseIn c f ≠ 0b00#2 := by
  revert c f; intro c; cases c <;> decide

theorem State.refresh_ready (s : State) (h : s.cur.toNat < 624) : s.refreshIfExhausted = s := by
  simp [State.refreshIfExhausted, Nat.not_le.mpr h]

theorem State.refresh_exhausted (s : State) (h : 624 ≤ s.cur.toNat) :
    s.refreshIfExhausted = s.twist := by
  simp [State.refreshIfExhausted, h]

theorem State.read_inRange (s : State) (h : s.cur.toNat < 624) :
    s.readAtCursor = s.respond (temper (s.mt[s.cur.toNat]'h)) false := by
  simp [State.readAtCursor, h]

theorem State.read_outOfRange (s : State) (h : ¬ s.cur.toNat < 624) :
    s.readAtCursor = (s.raise .oob).afterDraw.respond s.drawn true := by
  simp [State.readAtCursor, h, State.readIdx624, idx624Read]

/-- The increment does not wrap below 1023. -/
theorem cursor_add_one (c : Cursor) (h : c.toNat < 1023) : (c + 1#10).toNat = c.toNat + 1 := by
  rw [BitVec.toNat_add]; simp; omega

/-- What a move of each kind says about the state, and the state it leads to. -/
theorem step_cases {s t : State} (h : step s = .next t) :
    (s.ports.rst = true ∧ s.move = .reset ∧ t = s.advance.applyReset) ∨
    (s.ports.rst = false ∧ s.rspValid = true ∧ s.ports.rspReady = true ∧ s.move = .take ∧
      t = s.advance.takeResponse) ∨
    (∃ w, s.ports.rst = false ∧ s.rspValid = false ∧ s.busyWith = some w ∧ s.move = .run w ∧
      exec (decode w) s.advance = .next t) ∨
    (s.ports.rst = false ∧ s.rspValid = false ∧ s.busyWith = none ∧ s.ports.cmdValid = true ∧
      s.move = .accept s.ports.word ∧ t = s.advance.accept s.ports.word) ∨
    (s.ports.rst = false ∧ s.move = .idle ∧ t = s.advance) := by
  have hm : s.move = s.move := rfl
  conv at hm => rhs; unfold State.move
  unfold step at h
  split at hm
  · rename_i hr
    rw [hm] at h
    exact .inl ⟨hr, hm, (Host.Outcome.next.inj h).symm⟩
  · rename_i hr
    have hr' : s.ports.rst = false := by simpa using hr
    split at hm
    · rename_i hv
      split at hm
      · rename_i hy
        rw [hm] at h
        exact .inr (.inl ⟨hr', hv, hy, hm, (Host.Outcome.next.inj h).symm⟩)
      · rw [hm] at h
        exact .inr (.inr (.inr (.inr ⟨hr', hm, (Host.Outcome.next.inj h).symm⟩)))
    · rename_i hv
      have hv' : s.rspValid = false := by simpa using hv
      split at hm
      · rename_i w hw
        rw [hm] at h
        exact .inr (.inr (.inl ⟨w, hr', hv', hw, hm, h⟩))
      · rename_i hb
        split at hm
        · rename_i ha
          rw [hm] at h
          simp only [Bool.and_eq_true] at ha
          exact .inr (.inr (.inr (.inl ⟨hr', hv', hb, ha.1, hm, (Host.Outcome.next.inj h).symm⟩)))
        · rw [hm] at h
          exact .inr (.inr (.inr (.inr ⟨hr', hm, (Host.Outcome.next.inj h).symm⟩)))

/-- One command more at transaction level. -/
theorem transact_cons {i : Instr} {s t : State} (is : List Instr) (h : exec i s = .next t) :
    transact (i :: is) s =
      (transact is t.takeResponse).map (fun o => (t.slot.toList ++ o.1, o.2)) := by
  rw [transact, h]

/-- Every step answers a next state: no command stops the engine (60 R108, R112). -/
theorem step_answers (s : State) : ∃ t, step s = .next t := by
  unfold step
  split
  · exact ⟨_, rfl⟩
  · exact ⟨_, rfl⟩
  · rename_i w _
    cases decode w <;> exact ⟨_, rfl⟩
  · exact ⟨_, rfl⟩
  · exact ⟨_, rfl⟩

/-! ## Runs -/

@[simp] theorem Run.after_commands (s : State) (r : Run) :
    (r.after s).commands = s.accepted ++ r.commands := rfl
@[simp] theorem Run.after_responses (s : State) (r : Run) :
    (r.after s).responses = s.delivered ++ r.responses := rfl
@[simp] theorem Run.after_final (s : State) (r : Run) : (r.after s).final = r.final := rfl

/-- A run of one step more. -/
theorem observe_succ {s t : State} (k : Nat) (hr : s.ports.rst = false) (h : step s = .next t) :
    observe (k + 1) s = (observe k t).map (Run.after s) := by
  rw [observe, hr, h]; rfl

/-- No run holds a reset. -/
theorem observe_reset {s : State} (k : Nat) (hr : s.ports.rst = true) : observe (k + 1) s = none := by
  rw [observe, hr]; rfl

/-- What a run of one step more is made of. -/
theorem observe_cases {k : Nat} {s : State} {r : Run} (h : observe (k + 1) s = some r) :
    ∃ t q, s.ports.rst = false ∧ step s = .next t ∧ observe k t = some q ∧ r = q.after s := by
  obtain ⟨t, ht⟩ := step_answers s
  have hr : s.ports.rst = false := by
    by_contra hc; rw [observe_reset k (by simpa using hc)] at h; simp at h
  rw [observe_succ k hr ht, Option.map_eq_some_iff] at h
  obtain ⟨q, hq, rfl⟩ := h
  exact ⟨t, q, hr, ht, hq, rfl⟩

end Sys2Proof.Machine
end

