-- ==== Sys2Proof/Laws/PerInstr.lean ====
section
/-! SUPPORT. Statements made once per command: the fields of its encoding. -/

namespace Sys2Proof.Laws

/-- The encoder puts the command's opcode of 30_encoding.md R56 in bits [33:32] and its operand, or
zero, in bits [31:0]; and any data beside the opcode of a command that ignores it decodes to that
command (R58). -/
def OpcodeField.Statement (i : Instr) : Prop :=
  opField (encode i) = opcodeOf i ∧ dataField (encode i) = operandOf i ∧
    ∀ d : Word, opcodeOf i ≠ 0b01#2 → decode (commandWord (opcodeOf i) d) = i

theorem OpcodeField.next : OpcodeField.Statement .next := by
  simp [OpcodeField.Statement, encode, opcodeOf, operandOf, decodeFields]

theorem OpcodeField.seed (v : Word) : OpcodeField.Statement (.seed v) := by
  simp [OpcodeField.Statement, encode, opcodeOf, operandOf]

theorem OpcodeField.seedDefault : OpcodeField.Statement .seedDefault := by
  simp [OpcodeField.Statement, encode, opcodeOf, operandOf, decodeFields]

theorem OpcodeField.illegal : OpcodeField.Statement .illegal := by
  simp [OpcodeField.Statement, encode, opcodeOf, operandOf, decodeFields]

end Sys2Proof.Laws
end

