-- ==== Sys2Proof/Machine/Assembler.lean ====
section
/-! DEFINITION. Reading assembler text (30_encoding.md R69, R71): from the characters of a line to an
`AsmCommand`, and from lines to a program. `Decode.lean` gives the words. The conventions R69 leaves
open (white space, the case of hexadecimal digits, nested `.rep`) are entry 17. -/

namespace Sys2Proof.Machine

/-- The value of a decimal digit. -/
def decDigit (c : Char) : Option Nat :=
  if 48 ≤ c.toNat ∧ c.toNat ≤ 57 then some (c.toNat - 48) else none

/-- The value of a hexadecimal digit, in either case. -/
def hexDigit (c : Char) : Option Nat :=
  if 48 ≤ c.toNat ∧ c.toNat ≤ 57 then some (c.toNat - 48)
  else if 65 ≤ c.toNat ∧ c.toNat ≤ 70 then some (c.toNat - 55)
  else if 97 ≤ c.toNat ∧ c.toNat ≤ 102 then some (c.toNat - 87)
  else none

/-- Digits read from the left in a base; `acc` is the value so far. -/
def readDigits (base : Nat) (digit : Char → Option Nat) (acc : Nat) : List Char → Option Nat
  | [] => some acc
  | c :: cs =>
    match digit c with
    | some d => readDigits base digit (acc * base + d) cs
    | none => none

/-- At least one digit. -/
def readNumber (base : Nat) (digit : Char → Option Nat) (cs : List Char) : Option Nat :=
  if cs.isEmpty then none else readDigits base digit 0 cs

/-- `imm32 := decimal | "0x" hex` (R69). Its range is checked by `AsmCommand.wellFormed`. -/
def readImm32 : List Char → Option Nat
  | '0' :: 'x' :: cs => readNumber 16 hexDigit cs
  | cs => readNumber 10 decDigit cs

/-- `imm34 := "0x" hex`, underscores allowed (R69): they are only for reading (R55). -/
def readImm34 : List Char → Option Nat
  | '0' :: 'x' :: cs => readNumber 16 hexDigit (cs.filter (· != '_'))
  | _ => none

/-- A line less its comment: what stands before the first `;` (R69). -/
def dropComment : List Char → List Char
  | [] => []
  | c :: cs => if c = ';' then [] else c :: dropComment cs

/-- A blank between words. -/
def isBlank (c : Char) : Bool := c == ' ' || c == '\t' || c == '\r'

/-- The words of a line; `acc` is the current word, reversed. -/
def splitWords (acc : List Char) : List Char → List (List Char)
  | [] => if acc.isEmpty then [] else [acc.reverse]
  | c :: cs =>
    if isBlank c then
      (if acc.isEmpty then splitWords [] cs else acc.reverse :: splitWords [] cs)
    else splitWords (c :: acc) cs

/-- What one line of text says. -/
inductive AsmLine where
  /-- Nothing but blanks or a comment. -/
  | empty
  | command (c : AsmCommand)
  | repeatStart (n : Nat)
  | repeatEnd
deriving DecidableEq, Repr

/-- One line (R69, R71); `none` where it is no line of the grammar. Mnemonics are upper case. -/
def readLine (text : List Char) : Option AsmLine :=
  match splitWords [] (dropComment text) with
  | [] => some .empty
  | [w] =>
    if w = ['N', 'E', 'X', 'T'] then some (.command .next)
    else if w = ['S', 'E', 'E', 'D'] then some (.command .seedAbsent)
    else if w = ['S', 'E', 'E', 'D', '_', 'D', 'E', 'F', 'A', 'U', 'L', 'T'] then
      some (.command .seedDefault)
    else if w = ['.', 'e', 'n', 'd', 'r'] then some .repeatEnd
    else none
  | [w, a] =>
    if w = ['S', 'E', 'E', 'D'] then (readImm32 a).map (fun n => .command (.seed n))
    else if w = ['.', 'w', 'o', 'r', 'd', '3', '4'] then
      (readImm34 a).map (fun n => .command (.word34 n))
    else if w = ['.', 'r', 'e', 'p'] then (readNumber 10 decDigit a).map .repeatStart
    else none
  | _ => none

/-- The items of a program; `block` is the `.rep` block being read, its lines reversed. -/
def readItems : Option (Nat × List AsmCommand) → List (List Char) → Option (List AsmItem)
  | none, [] => some []
  | some _, [] => none
  | none, l :: ls =>
    match readLine l with
    | some .empty => readItems none ls
    | some (.command c) => (readItems none ls).map (.line c :: ·)
    | some (.repeatStart n) => readItems (some (n, [])) ls
    | some .repeatEnd => none
    | none => none
  | some (n, body), l :: ls =>
    match readLine l with
    | some .empty => readItems (some (n, body)) ls
    | some (.command c) => readItems (some (n, c :: body)) ls
    | some (.repeatStart _) => none
    | some .repeatEnd => (readItems none ls).map (.rep n body.reverse :: ·)
    | none => none

/-- The text cut into lines at line feeds; `acc` is the current line, reversed. -/
def splitLines (acc : List Char) : List Char → List (List Char)
  | [] => [acc.reverse]
  | c :: cs => if c = '\n' then acc.reverse :: splitLines [] cs else splitLines (c :: acc) cs

/-- The assembler (R69): program text to command words, or a refusal. -/
def assemble (text : List Char) : Option (List CommandWord) :=
  match readItems none (splitLines [] text) with
  | some items => assembleProgram items
  | none => none

end Sys2Proof.Machine
end

