-- ==== Sys2Proof/Tests/Slice0.lean ====
section
/-! SUPPORT. Tests of the model against spec/95_test_vectors.md and the worked examples of the rules,
and for each statement of Obligations.lean that has hypotheses a state that meets them. -/

namespace Sys2Proof.Tests

open Sys2Proof Sys2Proof.Machine

/-! ## Well-formedness: each check refuses an ill-formed term (30 R69). No `Instr` is ill formed. -/

theorem test_seed_imm32_too_large : (AsmCommand.seed 4294967296).wellFormed = false := by decide
theorem test_seed_imm32_largest : (AsmCommand.seed 4294967295).wellFormed = true := by decide
theorem test_word34_too_large : (AsmCommand.word34 0x400000000).wellFormed = false := by decide
theorem test_instr_well_formed : (Instr.seed 0#32).wellFormed = true := by decide

/-! ## Decoding: words written out from 30 R55, R56 (bits [33:32] then [31:0]); V-ENC E1–E9 -/

theorem test_decode_next : decode 0b00_00000000000000000000000000000000#34 = .next := by decide
theorem test_decode_next_ignored : decode 0b00_11011110101011011011111011101111#34 = .next := by decide
theorem test_decode_seed :
    decode 0b01_00000000000000000001010101110001#34 = .seed 5489#32 := by decide
theorem test_decode_seed_largest :
    decode 0b01_11111111111111111111111111111111#34 = .seed 0xFFFFFFFF#32 := by decide
theorem test_decode_seedDefault : decode 0b10_00000000000000000000000000000000#34 = .seedDefault := by
  decide
theorem test_decode_seedDefault_ignored :
    decode 0b10_00010010001101000101011001111000#34 = .seedDefault := by decide
theorem test_decode_illegal : decode 0b11_00000000000000000000000000000000#34 = .illegal := by decide
theorem test_decode_illegal_ignored :
    decode 0b11_11111111111111111111111111111111#34 = .illegal := by decide
theorem test_decodeTableWord :
    decodeTableWord 34 0x100001571 = some (.seed 5489#32) ∧
    decodeTableWord 40 0x300000000 = some .illegal ∧ decodeTableWord 40 0x400000000 = none := by decide

/-! ## The assembler (30 R69–R71; 95 P3, P5) -/

/-- `SEED 1` with a comment, a blank line, `.rep`, hexadecimal and underscores. -/
theorem test_assemble_program :
    assemble ("SEED 1 ; c".toList ++ '\n' :: '\n' :: ".rep 2".toList ++ '\n' :: "NEXT".toList ++
      '\n' :: ".endr".toList ++ '\n' :: ".word34 0x3_0000_0000".toList ++ '\n' ::
      "SEED 0xFFFFFFFF".toList ++ '\n' :: "SEED".toList) =
    some [0x100000001#34, 0x000000000#34, 0x000000000#34, 0x300000000#34, 0x1FFFFFFFF#34,
      0x200000000#34] := by decide +kernel

theorem test_assemble_refuses :
    assemble "SEED 4294967296".toList = none ∧ assemble "next".toList = none ∧
    assemble ".word34 1".toList = none ∧ assemble ".word34 0x4_0000_0000".toList = none ∧
    assemble ".endr".toList = none := by decide +kernel

/-! ## Init (V-INIT) and Twist (V-TWIST), word by word -/

theorem test_init_words :
    (∀ a, wordAt (initWords 5489#32 a) 1 = 0x4D98EE96#32 ∧
      wordAt (initWords 5489#32 a) 623 = 0x04C46D8C#32) ∧
    (∀ a, wordAt (initWords 0#32 a) 1 = 0x00000001#32 ∧
      wordAt (initWords 0#32 a) 622 = 0xB5B4302F#32) ∧
    (∀ a, wordAt (initWords 0x80000000#32 a) 1 = 0x580F12CB#32 ∧
      wordAt (initWords 0x80000000#32 a) 623 = 0x30A7C5D2#32) ∧
    (∀ a, wordAt (initWords 0xDEADBEEF#32 a) 3 = 0x5874E5DE#32) := by
  refine ⟨fun a => ⟨?_, ?_⟩, fun a => ⟨?_, ?_⟩, fun a => ⟨?_, ?_⟩, fun a => ?_⟩ <;>
    (rw [wordAt_initWords _ _ _ (by decide)]; decide +kernel)

theorem test_twist_words :
    (∀ a, wordAt (twistWords (initWords 5489#32 a)) 0 = 0x9B0AFA27#32 ∧
      wordAt (twistWords (initWords 5489#32 a)) 396 = 0x453CCF7B#32 ∧
      wordAt (twistWords (initWords 5489#32 a)) 623 = 0xD1B102B7#32) ∧
    (∀ a, wordAt (twistWords (initWords 0xFFFFFFFF#32 a)) 1 = 0xA7A4B090#32 ∧
      wordAt (twistWords (initWords 0xFFFFFFFF#32 a)) 623 = 0x2432902C#32) := by
  refine ⟨fun a => ⟨?_, ?_, ?_⟩, fun a => ⟨?_, ?_⟩⟩ <;>
    (rw [wordAt_twist_init _ _ _ (by decide)]; decide +kernel)

/-- The second twist of seed 5489, the array after the 625th `NEXT`. -/
theorem test_second_twist (a : StateArray) :
    wordAt (twistWords (twistWords (initWords 5489#32 a))) 1 = 0x0C85C5E3#32 ∧
    wordAt (twistWords (twistWords (initWords 5489#32 a))) 623 = 0x03680F94#32 := by
  have h : ∀ i < 624, wordAt (twistWords (twistWords (initWords 5489#32 a))) i =
      twistSeq (twistSeq (initSeq 5489#32)) i := fun i hi => by
    rw [wordAt_twistWords _ _ hi]
    exact twistSeq_congr _ _ (fun j hj => wordAt_twist_init _ a j hj) i hi
  rw [h 1 (by decide), h 623 (by decide)]
  decide +kernel

/-- The in-place twist itself, on a sparse array (V-TWIST T3): `mt[397]` = 1. Index 227 separates it
from a twist of a snapshot, which gives 0 there. -/
theorem test_twist_in_place :
    wordAt (twistWords ((Vector.replicate 624 0#32).set 397 1#32)) 0 = 1#32 ∧
    wordAt (twistWords ((Vector.replicate 624 0#32).set 397 1#32)) 227 = 1#32 := by
  rw [wordAt_twistWords _ _ (by decide), wordAt_twistWords _ _ (by decide)]
  decide +kernel

/-- V-TWIST T3 and T4 at the other indices, and T6. -/
theorem test_twist_corner_cases :
    twistSeq (fun i => if i = 397 then 1#32 else 0#32) 396 = 0x9908B0DF#32 ∧
    twistSeq (fun i => if i = 397 then 1#32 else 0#32) 454 = 1#32 ∧
    twistSeq (fun i => if i = 0 then 0x80000000#32 else 0#32) 623 = 0x20000000#32 ∧
    twistSeq (fun i => if i = 1 then 1#32 else 0#32) 623 = 0x958CE8B0#32 ∧
    twistSeq (fun _ => 0xFFFFFFFF#32) 622 = 0x1908B0DF#32 ∧
    twistSeq (fun _ => 0xFFFFFFFF#32) 623 = 0x2A73174F#32 := by decide +kernel

/-! ## Temper (V-TEMPER) -/

theorem test_temper :
    temper 0x00000001#32 = 0x00400091#32 ∧ temper 0x80000000#32 = 0x88102204#32 ∧
    temper 0x7FFFFFFF#32 = 0xE7F039FC#32 ∧ temper 0x12345678#32 = 0x2B7E4A2D#32 ∧
    temper 0xAAAAAAAA#32 = 0x7315B5BA#32 ∧ temper 0x9B0AFA27#32 = 0xD091BB5C#32 := by decide

/-! ## The commands, one step each -/

/-- The reset state with another cursor and FAULT register. -/
def atCursor (c : Nat) (f : FaultReg) : State :=
  { State.reset with cur := BitVec.ofNat 10 c, fault := f }

/-- The reset state with a command in progress. -/
def inProgress (w : CommandWord) : State := { State.reset with busyWith := some w }

/-- The reset state with a response waiting. -/
def waiting (r : Response) : State := { State.reset with slot := some r, fault := 0b10#2 }

/-- Some port levels at the next step. -/
def driven (p : PortsIn) (s : State) : State := { s with inputs := [p] }

/-- A test of the state a command leads to. -/
def after (o : Host.Outcome State Fault Refusal) (p : State → Bool) : Bool :=
  match o with
  | .next t => p t
  | .fault _ => false
  | .refused _ => false

/-- V-NEXT X1, V-ENC E1: the first response after reset. -/
theorem test_next_first :
    after (step (State.reset.withFetchWord 34 0x000000000))
      (fun t => t.slot == some ⟨581869302#32, false⟩ && t.cur == 1#10) = true := by decide +kernel

/-- V-FAULT F1: index 624. The data is a free value and is not tested. -/
theorem test_next_index624 :
    after (exec .next (atCursor 623 0b00#2))
      (fun t => t.slot.map Response.err == some true && t.fault == 0b01#2 && t.cur == 624#10) = true := by
  decide +kernel

/-- V-FAULT F2, V-NEXT X4: an exhausted `NEXT` twists, and FAULT stays. The array here is zero but for
one word, so that the twisted word 1 is `mt[398]`. -/
theorem test_next_exhausted :
    after (exec .next { atCursor 624 0b01#2 with mt := (Vector.replicate 624 0#32).set 398 0x9B0AFA27#32 })
      (fun t => t.slot == some ⟨3499211612#32, false⟩ && t.fault == 0b01#2 && t.cur == 1#10) = true := by
  decide +kernel

/-- V-FAULT F4: `SEED 7` does not clear FAULT. -/
theorem test_seed_keeps_fault :
    after (exec (.seed 7#32) (atCursor 3 0b11#2))
      (fun t => t.slot == some ⟨0#32, false⟩ && t.fault == 0b11#2 && t.cur == 0#10) = true := by
  decide +kernel

/-- V-TWIST seed 0 (V-ENC E4), through the step. -/
theorem test_seed_zero :
    ∃ t, step (State.reset.withFetchWord 34 0x100000000) = .next t ∧ wordAt t.mt 0 = 0x91A10D12#32 ∧
      t.cur = 0#10 ∧ t.slot = some ⟨0#32, false⟩ :=
  ⟨_, rfl, (wordAt_twist_init 0#32 _ 0 (by decide)).trans (by decide +kernel), rfl, rfl⟩

/-- V-FAULT F6: `SEED_DEFAULT`, like `SEED 5489`, discards an exhausted epoch without a fault. -/
theorem test_seedDefault :
    ∃ t, exec .seedDefault (atCursor 624 0b00#2) = .next t ∧ wordAt t.mt 1 = 0xE99DE361#32 ∧
      t.cur = 0#10 ∧ t.fault = 0b00#2 :=
  ⟨_, rfl, (wordAt_twist_init 5489#32 _ 1 (by decide)).trans (by decide +kernel), rfl, rfl⟩

/-- V-FAULT F3, V-ENC E9. -/
theorem test_illegal :
    after (step (State.reset.withFetchWord 40 0x3FFFFFFFF))
      (fun t => t.slot == some ⟨0#32, true⟩ && t.fault == 0b10#2 && t.cur == 0#10) = true := by
  decide +kernel

/-! ## The ports -/

/-- A command presented to the reset state is accepted and makes the engine busy. -/
theorem test_accept :
    after (step (driven (.present 0x100001571#34) State.reset))
      (fun t => t.busyWith == some 0x100001571#34 && !t.cmdReady) = true := by decide +kernel

/-- V-FAULT F5: reset during a command, with FAULT set. -/
theorem test_reset_port :
    after (step (driven .reset { inProgress 0#34 with fault := 0b11#2, cur := 5#10 }))
      (fun t => t.busyWith == none && t.fault == 0b00#2 && t.cur == 0#10 && t.cmdReady) = true := by
  decide +kernel

/-- A run of one `NEXT` from reset at the ports is over, clean and within the host's duty (70 R134). -/
theorem test_safe_run : ∃ r, safeRun 3 (hostScript [encode .next]) 0 r ∧ r.commands = [0x000000000#34] := by
  have h : ∃ r, observe 3 (launch (hostScript [encode .next]) 0) = some r ∧
      r.over = true ∧ r.final.fault = 0b00#2 ∧ r.commands = [0x000000000#34] :=
    ⟨_, rfl, rfl, rfl, by decide +kernel⟩
  obtain ⟨r, h1, h2, h3, h4⟩ := h
  exact ⟨r, ⟨by decide +kernel, h1, h2, fun hf => hf h3⟩, h4⟩

/-- 70 R122, R133: reset abandons the accepted `NEXT`; no run holds both, and none of them is safe. -/
theorem test_abandoned_is_no_run :
    observe 2 (launch [.present 0x000000000#34, .reset] 0) = none := by decide +kernel

/-- 60 R109: `ILLEGAL`, its response taken, then reset, which clears FAULT: no safe run. -/
theorem test_fault_before_reset_is_not_safe (r : Run) :
    ¬ safeRun 4 (hostScript [0x300000000#34] ++ [.reset]) 0 r := by
  have h : observe 4 (launch (hostScript [0x300000000#34] ++ [.reset]) 0) = none := by decide +kernel
  intro hs
  have := h.symm.trans hs.2.1
  contradiction

/-- 60 R104: the step that runs `ILLEGAL` sets a FAULT bit, also where it is set already. -/
theorem test_setsFault : (inProgress 0x300000000#34).setsFault = true ∧
    ({ inProgress 0x300000000#34 with fault := 0b10#2 } : State).setsFault = true := by decide +kernel

/-- 70 R125: a host that changes the word before it is accepted breaks its duty. -/
theorem test_duty_broken :
    hostKeepsDuty 1 { inProgress 0#34 with inputs := [.present 0x300000000#34, .present 0#34] } = false := by
  decide +kernel

/-! ## Witnesses: a state and operands that meet each statement's hypotheses -/

theorem witness_ResetAbandonsCommandAndResponse :
    (driven .reset (inProgress 0#34)).ports.rst = true := rfl

theorem witness_ResetEqualsDefaultSeeding :
    (Instr.seedDefault = .seedDefault ∨ Instr.seedDefault = .seed 5489#32) ∧
    (Instr.seed 5489#32 = .seedDefault ∨ Instr.seed 5489#32 = .seed 5489#32) := by decide

theorem witness_InitRecurrence : (1 ≤ 1 ∧ 1 < 624) ∧ (1 ≤ 623 ∧ 623 < 624) := by decide
theorem witness_InitClosedForm : (1 ≤ 1 ∧ 1 < 624) ∧ (1 ≤ 623 ∧ 623 < 624) := by decide

theorem witness_SeedingFrame :
    ((∃ v, Instr.seed 0#32 = .seed v) ∧ ∃ t, exec (.seed 0#32) State.reset = .next t) ∧
    ∃ t, exec .seedDefault State.reset = .next t :=
  ⟨⟨⟨0#32, rfl⟩, _, rfl⟩, _, rfl⟩

theorem witness_TwistHelpers : 0 < 31 ∧ 30 < 31 := by decide
theorem witness_TwistReadsOldAndNew : (0 < 227 ∧ 226 < 227) ∧ (227 ≤ 227 ∧ 227 < 623) ∧
    (227 ≤ 622 ∧ 622 < 623) := by decide

theorem witness_TwistOfZeroArrays :
    ({ State.reset with mt := Vector.replicate 624 0#32 } : State).mt = Vector.replicate 624 0#32 ∧
    ({ State.reset with mt := (Vector.replicate 624 0#32).set 0 1#32 } : State).mt =
      (Vector.replicate 624 0#32).set 0 1#32 := ⟨rfl, rfl⟩

/-- The words of 42 R94. -/
theorem witness_TemperSteps :
    0xE980D0DD#32 = 0xE99DE361#32 ^^^ (0xE99DE361#32 >>> 11) ∧
    0x69A8965D#32 = 0xE980D0DD#32 ^^^ ((0xE980D0DD#32 <<< 7) &&& 0x9D2C5680#32) ∧
    0x22AE965D#32 = 0x69A8965D#32 ^^^ ((0x69A8965D#32 <<< 15) &&& 0xEFC60000#32) ∧
    0x22AE9EF6#32 = 0x22AE965D#32 ^^^ (0x22AE965D#32 >>> 18) := by decide

/-- The three cases of `NEXT`, at their bounds (1023 is a register value no run reaches). -/
theorem witness_NextCompletes :
    (atCursor 0 0#2).cur.toNat < 623 ∧ (atCursor 622 0#2).cur.toNat < 623 ∧
    (atCursor 623 0#2).cur.toNat = 623 ∧ ¬ (atCursor 624 0#2).cur.toNat ≤ 623 ∧
    ¬ (atCursor 1023 0#2).cur.toNat ≤ 623 := by
  simp [atCursor]

theorem witness_ReadAtIndex624Faults : (atCursor 623 0#2).cur.toNat = 623 := by simp [atCursor]

theorem witness_NextFrame :
    (∃ t, exec .next (atCursor 0 0#2) = .next t) ∧ (atCursor 0 0#2).cur.toNat < 624 ∧
    (atCursor 623 0#2).cur.toNat < 624 ∧ (atCursor 0 0#2).cur.toNat ≠ 623 ∧
    (atCursor 624 0#2).cur.toNat ≠ 623 := by
  exact ⟨⟨_, rfl⟩, by simp [atCursor]⟩

theorem witness_NextNeverReadsWordZero :
    ((atCursor 0 0#2).cur.toNat < 623 ∧ ∃ t, exec .next (atCursor 0 0#2) = .next t) ∧
    ((atCursor 622 0#2).cur.toNat < 623 ∧ ∃ t, exec .next (atCursor 622 0#2) = .next t) ∧
    (atCursor 623 0#2).cur.toNat = 623 :=
  ⟨⟨by simp [atCursor], _, rfl⟩, ⟨by simp [atCursor], _, rfl⟩, by simp [atCursor]⟩

theorem witness_NextPhaseTransitions :
    (atCursor 0 0#2).cur.toNat < 623 ∧ (atCursor 622 0#2).cur.toNat < 623 ∧
    (atCursor 623 0#2).cur.toNat = 623 ∧ (atCursor 624 0#2).phase = .exhausted := by
  simp [atCursor, State.phase]

theorem witness_EveryCommandAnswers :
    (atCursor 623 0#2).cur.toNat = 623 ∧ (atCursor 622 0#2).cur.toNat ≠ 623 ∧
    (atCursor 624 0#2).cur.toNat ≠ 623 := by simp [atCursor]

theorem witness_FaultCauses :
    (∃ t, exec .illegal State.reset = .next t) ∧ (∃ t, exec .next (atCursor 623 0#2) = .next t) ∧
    (∃ t, step (waiting ⟨0#32, true⟩) = .next t) ∧ (waiting ⟨0#32, true⟩).move = .idle :=
  ⟨⟨_, rfl⟩, ⟨_, rfl⟩, ⟨_, rfl⟩, rfl⟩

theorem witness_OneCauseAndResetFirst :
    ((∃ t, exec .next (atCursor 623 0#2) = .next t) ∧ (atCursor 623 0#2).fault = 0b00#2) ∧
    ((∃ t, exec .illegal State.reset = .next t) ∧ State.reset.fault = 0b00#2) ∧
    ((driven .reset State.reset).ports.rst = true ∧ ∃ t, step (driven .reset State.reset) = .next t) :=
  ⟨⟨⟨_, rfl⟩, rfl⟩, ⟨⟨_, rfl⟩, rfl⟩, rfl, ⟨_, rfl⟩⟩

theorem witness_FaultBitsAreSticky : (waiting ⟨0#32, true⟩).ports.rst = false := rfl

theorem witness_IllegalFrame : ∃ t, exec .illegal State.reset = .next t := ⟨_, rfl⟩

theorem witness_DecodeByOpcode :
    (0x0FFFFFFFF#34).extractLsb' 32 2 = 0b00#2 ∧ (0x100000000#34).extractLsb' 32 2 = 0b01#2 ∧
    (0x200000001#34).extractLsb' 32 2 = 0b10#2 ∧ (0x3FFFFFFFF#34).extractLsb' 32 2 = 0b11#2 := by decide

theorem witness_IgnoredBitsAreIgnored :
    (0b00#2 ≠ 0b01#2 ∧ 0b10#2 ≠ 0b01#2 ∧ 0b11#2 ≠ 0b01#2) ∧ State.reset.slot = none ∧
    State.reset.ports.rst = false ∧ State.reset.cur.toNat ≠ 623 ∧ 0b11#2 ≠ 0b00#2 ∧
    (atCursor 623 0#2).slot = none ∧ (atCursor 623 0#2).ports.rst = false ∧
    ∀ v, Instr.next ≠ .seed v :=
  ⟨by decide, rfl, rfl, by decide, by decide, rfl, rfl, nofun⟩

theorem witness_AssemblerEncodings :
    4294967295 ≤ 0xFFFFFFFF ∧ 0 ≤ 0xFFFFFFFF ∧ 0x3FFFFFFFF < 2 ^ 34 := by decide

theorem witness_AssemblerPseudoAndRefusals :
    assembleCommand .seedAbsent = some 0x200000000#34 ∧
    (∀ n, AsmCommand.seedAbsent ≠ .seed n) ∧ (∀ n, AsmCommand.seedAbsent ≠ .word34 n) ∧
    0xFFFFFFFF < 4294967296 ∧ 2 ^ 34 ≤ 0x400000000 :=
  ⟨by decide, nofun, nofun, by decide, by decide⟩

theorem witness_StepRunsTheDecodedCommand :
    (inProgress 0x300000000#34).busyWith = some 0x300000000#34 ∧
    (inProgress 0x300000000#34).slot = none ∧ (inProgress 0x300000000#34).ports.rst = false :=
  ⟨rfl, rfl, rfl⟩

theorem witness_PortValues : (waiting ⟨1#32, true⟩).slot = some ⟨1#32, true⟩ := rfl

theorem witness_AcceptanceAtTheHandshake :
    (driven (.present 0#34) State.reset).ports.rst = false ∧
    (driven (.present 0#34) State.reset).ports.cmdValid = true ∧
    (driven (.present 0#34) State.reset).cmdReady = true ∧
    (driven (.present 0#34) State.reset).busyWith = none ∧
    ∃ t w, step (driven (.present 0#34) State.reset) = .next t ∧ t.busyWith = some w :=
  ⟨rfl, rfl, rfl, rfl, _, _, rfl, rfl⟩

theorem witness_SlotHoldsUntilTaken :
    (waiting ⟨1#32, true⟩).slot = some ⟨1#32, true⟩ ∧ (waiting ⟨1#32, true⟩).ports.rst = false ∧
    (waiting ⟨1#32, true⟩).ports.rspReady = false ∧
    (driven .take (waiting ⟨1#32, true⟩)).slot = some ⟨1#32, true⟩ ∧
    (driven .take (waiting ⟨1#32, true⟩)).ports.rst = false ∧
    (driven .take (waiting ⟨1#32, true⟩)).ports.rspReady = true := ⟨rfl, rfl, rfl, rfl, rfl, rfl⟩

theorem witness_OneCommandOutstanding :
    ((inProgress 0#34).busy = true ∧ ∃ t, step (inProgress 0#34) = .next t) ∧
    ((driven .take (waiting ⟨1#32, true⟩)).rspValid = true ∧
      ∃ t, step (driven .take (waiting ⟨1#32, true⟩)) = .next t ∧ t.cmdReady = true) :=
  ⟨⟨rfl, _, rfl⟩, rfl, _, rfl, rfl⟩

theorem witness_IdleEngineHoldsState :
    State.reset.busyWith = none ∧ State.reset.slot = none ∧ State.reset.ports.rst = false ∧
    State.reset.ports.cmdValid = false := ⟨rfl, rfl, rfl, rfl⟩

theorem witness_UntakenResponseStalls :
    (driven .quiet (waiting ⟨1#32, true⟩)).slot = some ⟨1#32, true⟩ ∧
    ∀ p ∈ (driven .quiet (waiting ⟨1#32, true⟩)).inputs.take 2, p.rst = false ∧ p.rspReady = false :=
  ⟨rfl, by simp [driven, PortsIn.quiet]⟩

theorem witness_HeldCommandIsAccepted :
    ∃ p : PortsIn, p.rst = false ∧ p.cmdValid = true ∧ p.rspReady = true ∧
      ({ inProgress 0#34 with inputs := [p, p, p, p] } : State).inputs = p :: p :: p :: p :: [] :=
  ⟨⟨false, true, 0b01#2, 7#32, true⟩, rfl, rfl, rfl, rfl⟩

/-- A word presented to a busy engine, not yet accepted; one accepted at once; the two kinds of host. -/
theorem witness_PresentedCommandIsKept :
    (∃ r, ({ inProgress 0#34 with inputs := List.replicate 2 (.present 7#34) } : State).ports.cmdValid = true ∧
      hostKeepsDuty 1 { inProgress 0#34 with inputs := List.replicate 2 (.present 7#34) } = true ∧
      observe 1 { inProgress 0#34 with inputs := List.replicate 2 (.present 7#34) } = some r ∧
      r.commands = []) ∧
    (∃ r, (driven (.present 7#34) State.reset).ports.cmdValid = true ∧
      hostKeepsDuty 1 (driven (.present 7#34) State.reset) = true ∧
      observe 1 (driven (.present 7#34) State.reset) = some r ∧ r.commands.head? = some 7#34) ∧
    (driven (.present 7#34) State.reset).inputs = List.replicate (0 + 1) (.present 7#34) ∧
    State.reset.cmdReady = true :=
  ⟨⟨_, rfl, by decide +kernel, rfl, by decide +kernel⟩,
    ⟨_, rfl, by decide +kernel, rfl, by decide +kernel⟩, rfl, rfl⟩

theorem witness_StepKeepsInvariant : State.reset.Inv ∧ ∃ t, step State.reset = .next t :=
  ⟨⟨by decide, rfl, by decide⟩, _, rfl⟩

theorem witness_CleanRunDeliversNoError :
    (launch (hostScript [encode .next]) 0).Inv ∧
    ∃ r, observe 3 (launch (hostScript [encode .next]) 0) = some r ∧ ¬ r.final.faulted := by
  obtain ⟨r, ⟨_, h, _, hf⟩, _⟩ := test_safe_run
  exact ⟨⟨by decide, rfl, by decide⟩, r, h, hf⟩

/-- A clean run, and one whose last step sets a bit. -/
theorem witness_CleanRunSetsNoFault :
    (∃ r, observe 3 (launch (hostScript [encode .next]) 0) = some r ∧ ¬ r.final.faulted) ∧
    ∃ r, observe 1 (inProgress 0x300000000#34) = some r ∧ r.final.fault = 0b10#2 := by
  obtain ⟨r, ⟨_, h, _, hf⟩, _⟩ := test_safe_run
  exact ⟨⟨r, h, hf⟩, _, rfl, by decide +kernel⟩

theorem witness_ResetLaunchesARun :
    (driven .reset (inProgress 0#34)).ports.rst = true ∧
    ∃ r, observe 1 (driven (.present 7#34) State.reset) = some r := ⟨rfl, _, rfl⟩

/-- A run that is over, from an idle engine. -/
theorem witness_RunIsItsCommands :
    (launch (hostScript [encode .next]) 0).cmdReady = true ∧
    ∃ r, observe 3 (launch (hostScript [encode .next]) 0) = some r ∧ r.over = true := by
  obtain ⟨r, ⟨_, h, ho, _⟩, _⟩ := test_safe_run
  exact ⟨rfl, r, h, ho⟩

/-- A safe run of `SEED 7` alone, n = 0. -/
theorem witness_StreamOfSeed :
    ∃ r, safeRun 3 (hostScript [encode (.seed 7#32)]) 0 r ∧
      (r.commands.map decode).head? = some (.seed 7#32) ∧
      r.commands.map decode = .seed 7#32 :: List.replicate 0 .next := by
  have h : ∃ r, observe 3 (launch (hostScript [encode (.seed 7#32)]) 0) = some r ∧
      r.over = true ∧ r.final.fault = 0b00#2 ∧ r.commands.map decode = [.seed 7#32] :=
    ⟨_, rfl, rfl, rfl, by decide +kernel⟩
  obtain ⟨r, h1, h2, h3, h4⟩ := h
  exact ⟨r, ⟨by decide +kernel, h1, h2, fun hf => hf h3⟩, by rw [h4]; rfl, h4⟩

theorem witness_CursorStaysInRange : State.reset.cur.toNat ≤ 624 ∧ ∃ t, step State.reset = .next t :=
  ⟨by decide, _, rfl⟩

theorem witness_StepKeepsArraySeeded : State.reset.ArraySeeded ∧ ∃ t, step State.reset = .next t :=
  ⟨⟨defaultSeed, 0, rfl⟩, _, rfl⟩

/-- A step that changes the cursor: the first `NEXT`. -/
theorem witness_WritersOfArrayAndCursor :
    ∃ t, step (inProgress 0#34) = .next t ∧ t.cur ≠ (inProgress 0#34).cur :=
  ⟨_, rfl, by decide +kernel⟩

/-- The reset state is one that a seeding of 5489 leaves; k at its bounds. -/
theorem witness_EpochStructure :
    State.reset.cur = 0#10 ∧
    State.reset.mt = twistWords (initWords 5489#32 (Vector.replicate 624 0#32)) ∧
    (1 ≤ 1 ∧ 1 ≤ 624) ∧ (1 ≤ 623 ∧ 623 < 624) ∧ (1 ≤ 624 ∧ 624 ≤ 624) :=
  ⟨rfl, rfl, by decide, by decide, by decide⟩

theorem witness_RefreshCadence : State.reset.cur = 0#10 := rfl

theorem witness_PortsRefineTransactions : State.reset.cmdReady = true ∧ State.reset.inputs = [] :=
  ⟨rfl, rfl⟩

end Sys2Proof.Tests
end

