-- ==== Sys2Proof/Proofs/Cursor.lean ====
section
/-! SUPPORT. What the commands and the steps do to the cursor (10_state.md R24), and the statement on its range. -/

namespace Sys2Proof.Machine

/-! ## Each command in terms of the named operations -/

@[simp] theorem exec_next (s : State) :
    exec .next s = .next s.refreshIfExhausted.incrementCursor.readAtCursor := rfl

@[simp] theorem exec_seed (v : Word) (s : State) :
    exec (.seed v) s = .next ((s.seedWith v).respond 0x00000000#32 false) := rfl

@[simp] theorem exec_seedDefault (s : State) :
    exec .seedDefault s = .next ((s.seedWith defaultSeed).respond 0x00000000#32 false) := rfl

@[simp] theorem exec_illegal (s : State) :
    exec .illegal s = .next ((s.raise .ill).respond 0x00000000#32 true) := rfl

/-! ## The cursor -/

/-- The read of `NEXT` leaves the cursor, at index 624 too (42 R97). -/
@[simp] theorem State.readAtCursor_cur (s : State) : s.readAtCursor.cur = s.cur := by
  by_cases h : s.cur.toNat < 624
  · simp [s.read_inRange h]
  · simp [s.read_outOfRange h]

/-- Whatever the cursor, the refresh check leaves it below 624: it twists otherwise. -/
theorem State.refreshIfExhausted_cur_le (s : State) : s.refreshIfExhausted.cur.toNat ≤ 623 := by
  rcases Nat.lt_or_ge s.cur.toNat 624 with h | h
  · rw [s.refresh_ready h]; omega
  · simp [s.refresh_exhausted h]

/-- The increment after the refresh check does not wrap. -/
theorem State.incrementCursor_refreshIfExhausted_cur_le (s : State) :
    s.refreshIfExhausted.incrementCursor.cur.toNat ≤ 624 := by
  have hle := s.refreshIfExhausted_cur_le
  rw [State.incrementCursor_cur, cursor_add_one _ (by omega)]
  omega

/-- Every command keeps the cursor in 0..624: `NEXT` by its refresh check, the seeding commands by
their twist, `ILLEGAL` because it leaves the cursor. -/
theorem exec_keeps_cur_le {i : Instr} {s t : State} (hs : s.cur.toNat ≤ 624)
    (h : exec i s = .next t) : t.cur.toNat ≤ 624 := by
  cases i with
  | next =>
    obtain rfl := Host.Outcome.next.inj ((exec_next s).symm.trans h)
    simpa using s.incrementCursor_refreshIfExhausted_cur_le
  | seed v =>
    obtain rfl := Host.Outcome.next.inj ((exec_seed v s).symm.trans h)
    simp
  | seedDefault =>
    obtain rfl := Host.Outcome.next.inj ((exec_seedDefault s).symm.trans h)
    simp
  | illegal =>
    obtain rfl := Host.Outcome.next.inj ((exec_illegal s).symm.trans h)
    simpa using hs

/-- Every step keeps the cursor in 0..624: reset twists, a run is its command, and the handshake
moves leave the cursor. -/
theorem step_keeps_cur_le {s t : State} (hs : s.cur.toNat ≤ 624) (h : step s = .next t) :
    t.cur.toNat ≤ 624 := by
  obtain ⟨-, -, rfl⟩ | ⟨-, -, -, -, rfl⟩ | ⟨w, -, -, -, -, hrun⟩ | ⟨-, -, -, -, -, rfl⟩ | ⟨-, -, rfl⟩ :=
    step_cases h
  · simp
  · simpa using hs
  · exact exec_keeps_cur_le (s := s.advance) (by simpa using hs) hrun
  · simpa using hs
  · simpa using hs

/-- Settles O49, from the bound after the refresh check and the step lemma. -/
theorem cursorStaysInRange : Obligations.CursorStaysInRange :=
  ⟨State.twist_cur,
   fun s => ⟨s.refreshIfExhausted_cur_le, s.incrementCursor_refreshIfExhausted_cur_le⟩,
   fun _ _ hs h => ⟨step_keeps_cur_le hs h, fun hge => le_antisymm (step_keeps_cur_le hs h) hge⟩⟩

end Sys2Proof.Machine
end

section
/-! SUPPORT. The decoder, the encoder and the assembler (30_encoding.md R58–R61, R69–R72), and the statements on
them. -/

namespace Sys2Proof

/-! ## The opcode map (R56) -/

@[simp] theorem decodeFields_op0 (d : Word) : decodeFields 0b00#2 d = .next := rfl
@[simp] theorem decodeFields_op1 (d : Word) : decodeFields 0b01#2 d = .seed d := rfl
@[simp] theorem decodeFields_op2 (d : Word) : decodeFields 0b10#2 d = .seedDefault := rfl
@[simp] theorem decodeFields_op3 (d : Word) : decodeFields 0b11#2 d = .illegal := rfl

/-- The data beside an opcode other than that of `SEED` does not enter (R58). -/
theorem decodeFields_ignores_data {op : BitVec 2} (h : op ≠ 0b01#2) (d e : Word) :
    decodeFields op d = decodeFields op e := by
  simp [decodeFields, h]

/-- Settles O31, by the opcode map at each value of the opcode field. -/
theorem decodeByOpcode : Obligations.DecodeByOpcode := by
  intro w
  have hw : decode w = decodeFields (w.extractLsb' 32 2) (w.extractLsb' 0 32) := rfl
  refine ⟨fun h => ?_, fun h => ?_, fun h => ?_, fun h => ?_⟩ <;> simp [hw, h]

/-! ## The encoder -/

@[simp] theorem dataField_encode (i : Instr) : dataField (encode i) = operandOf i := by
  simp [encode]

theorem operandOf_of_not_seed {i : Instr} (h : ∀ v, i ≠ .seed v) : operandOf i = 0#32 := by
  cases i with
  | seed v => exact absurd rfl (h v)
  | next | seedDefault | illegal => rfl

/-- The encoder writes zeros where the command ignores the data (R58, R71). -/
theorem encode_data_of_not_seed {i : Instr} (h : ∀ v, i ≠ .seed v) :
    (encode i).extractLsb' 0 32 = 0#32 :=
  (dataField_encode i).trans (operandOf_of_not_seed h)

/-- The word of `SEED v` as a number (R70). -/
theorem encode_seed_ofNat {n : Nat} (h : n ≤ 0xFFFFFFFF) :
    encode (.seed (BitVec.ofNat 32 n)) = BitVec.ofNat 34 (0x100000000 + n) := by
  apply BitVec.eq_of_toNat_eq
  rw [encode, commandWord_toNat]
  simp only [opcodeOf, operandOf, BitVec.toNat_ofNat]
  omega

/-- Settles O34: the rows of the table, evaluated. -/
theorem workedEncodings : Obligations.WorkedEncodings := by
  unfold Obligations.WorkedEncodings
  decide

/-! ## The assembler on command lines -/

/-- A line outside the ranges of R69 is refused. -/
theorem assembleCommand_of_not_wellFormed {c : AsmCommand} (h : c.wellFormed = false) :
    assembleCommand c = none := by
  simp [assembleCommand, h]

theorem assembleCommand_seed {n : Nat} (h : n ≤ 0xFFFFFFFF) :
    assembleCommand (.seed n) = some (encode (.seed (BitVec.ofNat 32 n))) := by
  simp [assembleCommand, AsmCommand.wellFormed, h]

theorem assembleCommand_word34 {n : Nat} (h : n < 2 ^ 34) :
    assembleCommand (.word34 n) = some (BitVec.ofNat 34 n) := by
  simp only [assembleCommand, AsmCommand.wellFormed, h, decide_true, if_true]

/-- Settles O35, the row of `SEED v` by the value of its word. -/
theorem assemblerEncodings : Obligations.AssemblerEncodings :=
  ⟨by decide, fun _ hv => by rw [assembleCommand_seed hv, encode_seed_ofNat hv], by decide,
    fun _ hw => assembleCommand_word34 hw⟩

/-- A line that carries no immediate assembles to the word of a command without operand. -/
theorem assembleCommand_without_immediate {c : AsmCommand} (hs : ∀ n, c ≠ .seed n)
    (hw : ∀ n, c ≠ .word34 n) :
    ∃ i : Instr, (∀ v, i ≠ .seed v) ∧ assembleCommand c = some (encode i) := by
  cases c with
  | next => exact ⟨.next, by simp, rfl⟩
  | seed n => exact absurd rfl (hs n)
  | seedAbsent => exact ⟨.seedDefault, by simp, rfl⟩
  | seedDefault => exact ⟨.seedDefault, by simp, rfl⟩
  | word34 n => exact absurd rfl (hw n)

/-! ## `.rep` blocks (R71) -/

theorem repeatLines_eq_flatten (n : Nat) (body : List AsmCommand) :
    repeatLines n body = (List.replicate n body).flatten := by
  induction n with
  | zero => rfl
  | succ n ih => simp [repeatLines, ih, List.replicate_succ]

theorem expandItems_lines_append (cs : List AsmCommand) (rest : List AsmItem) :
    expandItems (cs.map .line ++ rest) = cs ++ expandItems rest := by
  induction cs with
  | nil => rfl
  | cons c cs ih => simp [expandItems, ih]

/-- A `.rep` block assembles as its lines, n times. -/
theorem assembleProgram_rep (n : Nat) (body : List AsmCommand) (rest : List AsmItem) :
    assembleProgram (.rep n body :: rest) =
      assembleProgram ((List.replicate n body).flatten.map .line ++ rest) := by
  rw [assembleProgram, assembleProgram, expandItems_lines_append, expandItems,
    repeatLines_eq_flatten]

/-- Settles O36: the pseudo-commands by evaluation, `.rep` by writing its lines out, the ignored data
by the encoder's zeros, the refusals by the range check. -/
theorem assemblerPseudoAndRefusals : Obligations.AssemblerPseudoAndRefusals := by
  refine ⟨rfl, by decide, fun _ => rfl, assembleProgram_rep, fun c w hc hs hw => ?_,
    fun n hn => assembleCommand_of_not_wellFormed (decide_eq_false (by omega)),
    fun n hn => assembleCommand_of_not_wellFormed (decide_eq_false (by omega))⟩
  obtain ⟨i, hi, hci⟩ := assembleCommand_without_immediate hs hw
  obtain rfl : encode i = w := Option.some.inj (hci.symm.trans hc)
  exact encode_data_of_not_seed hi

end Sys2Proof

/-! SUPPORT. Commands and their responses, and the handshake of a step (30_encoding.md R58, R61–R65). -/

namespace Sys2Proof.Machine

/-! ## The response of each command (R61, R62) -/

/-- Settles O25: the meaning of `ILLEGAL` is its equation, and the opcode map says which words it has. -/
theorem illegalCompletes : Obligations.IllegalCompletes :=
  ⟨fun _ => rfl, fun d => by simp, by decide⟩

/-- The index `NEXT` reads: the next one, or 1 after a refresh (42 R95). -/
theorem State.nextCursor_toNat (s : State) :
    s.refreshIfExhausted.incrementCursor.cur.toNat =
      if s.cur.toNat < 624 then s.cur.toNat + 1 else 1 := by
  split
  next h => rw [s.refresh_ready h, State.incrementCursor_cur, cursor_add_one _ (by omega)]
  next h => rw [s.refresh_exhausted (Nat.le_of_not_lt h)]; simp

/-- The read of `NEXT` is in range, except from cursor 623. -/
theorem State.nextCursor_lt_iff (s : State) :
    s.refreshIfExhausted.incrementCursor.cur.toNat < 624 ↔ s.cur.toNat ≠ 623 := by
  rw [s.nextCursor_toNat]; split <;> omega

/-- `NEXT` never reads word 0 (42 R99). -/
theorem State.nextCursor_pos (s : State) :
    1 ≤ s.refreshIfExhausted.incrementCursor.cur.toNat := by
  rw [s.nextCursor_toNat]; split <;> omega

/-- From cursor 623 `NEXT` raises OOB and answers a draw with the error bit (42 R97). -/
theorem exec_next_at_623 {s : State} (h : s.cur.toNat = 623) :
    exec .next s = .next ((s.incrementCursor.raise .oob).afterDraw.respond s.drawn true) := by
  have hread : ¬ s.refreshIfExhausted.incrementCursor.cur.toNat < 624 :=
    fun hlt => s.nextCursor_lt_iff.mp hlt h
  rw [exec_next, State.read_outOfRange _ hread, s.refresh_ready (by omega)]
  rfl

/-- Settles O26, command by command; `NEXT` by whether its read is in range. -/
theorem everyCommandAnswers : Obligations.EveryCommandAnswers := by
  intro i s
  cases i with
  | next =>
    by_cases h : s.cur.toNat = 623
    · exact ⟨_, _, exec_next_at_623 h, rfl, rfl, by simp [h]⟩
    · have hread := s.nextCursor_lt_iff.mpr h
      refine ⟨_, _, (exec_next s).trans (congrArg _ (State.read_inRange _ hread)), rfl, rfl, ?_⟩
      simp only [h, if_false]
      exact ⟨_, hread, s.nextCursor_pos, rfl, rfl⟩
  | seed v => exact ⟨_, _, exec_seed v s, rfl, rfl, rfl⟩
  | seedDefault => exact ⟨_, _, exec_seedDefault s, rfl, rfl, rfl⟩
  | illegal => exact ⟨_, _, exec_illegal s, rfl, rfl, rfl⟩

/-- A command leaves its response in the slot. -/
theorem exec_rspValid {i : Instr} {s t : State} (h : exec i s = .next t) : t.rspValid = true := by
  obtain ⟨u, r, hu, hslot, -, -⟩ := everyCommandAnswers i s
  obtain rfl : u = t := Host.Outcome.next.inj (hu.symm.trans h)
  simp [State.rspValid, hslot]

/-! ## A command does not read the word it was accepted as (R58) -/

/-- The same state with another word, or none, in progress. -/
def State.setBusyWith (b : Option CommandWord) (s : State) : State := { s with busyWith := b }

theorem State.refreshIfExhausted_setBusyWith (b : Option CommandWord) (s : State) :
    (s.setBusyWith b).refreshIfExhausted = s.refreshIfExhausted.setBusyWith b := by
  rcases Nat.lt_or_ge s.cur.toNat 624 with h | h
  · rw [s.refresh_ready h, State.refresh_ready (s.setBusyWith b) h]
  · rw [s.refresh_exhausted h, State.refresh_exhausted (s.setBusyWith b) h]; rfl

/-- The read answers, and so ends `busy` whatever word was in progress. -/
theorem State.readAtCursor_setBusyWith (b : Option CommandWord) (s : State) :
    (s.setBusyWith b).readAtCursor = s.readAtCursor := by
  by_cases h : s.cur.toNat < 624
  · rw [s.read_inRange h, State.read_inRange (s.setBusyWith b) h]; rfl
  · rw [s.read_outOfRange h, State.read_outOfRange (s.setBusyWith b) h]; rfl

theorem exec_setBusyWith (i : Instr) (b : Option CommandWord) (s : State) :
    exec i (s.setBusyWith b) = exec i s := by
  cases i with
  | next =>
    rw [exec_next, exec_next, State.refreshIfExhausted_setBusyWith]
    exact congrArg _ (State.readAtCursor_setBusyWith b s.refreshIfExhausted.incrementCursor)
  | seed | seedDefault | illegal => rfl

/-! ## The move of a step (R63–R65) -/

/-- With a command in progress, no response waiting and no reset, the step runs the command. -/
theorem step_of_busy {s : State} {w : CommandWord} (hw : s.busyWith = some w) (hslot : s.slot = none)
    (hrst : s.ports.rst = false) : step s = exec (decode w) s.advance := by
  have hmove : s.move = .run w := by simp [State.move, State.rspValid, hrst, hslot, hw]
  rw [step, hmove]

/-- With a response waiting and no reset, `rsp_ready` alone decides what happens. -/
theorem State.move_of_slot {s : State} {r : Response} (hslot : s.slot = some r)
    (hrst : s.ports.rst = false) : s.move = if s.ports.rspReady then .take else .idle := by
  simp [State.move, State.rspValid, hrst, hslot]

/-- The step that runs a word depends on what the word decodes to, and no more. -/
theorem step_busyWith_congr {s : State} {w x : CommandWord} (hwx : decode w = decode x)
    (hslot : s.slot = none) (hrst : s.ports.rst = false) :
    step { s with busyWith := some w } = step { s with busyWith := some x } := by
  have run (y : CommandWord) :
      step { s with busyWith := some y } = exec (decode y) s.advance :=
    (step_of_busy (s := { s with busyWith := some y }) rfl hslot hrst).trans
      (exec_setBusyWith (decode y) (some y) s.advance)
  rw [run w, run x, hwx]

/-- Settles O32: the two words decode alike, and a step runs what its word decodes to. -/
theorem ignoredBitsAreIgnored : Obligations.IgnoredBitsAreIgnored := by
  refine ⟨fun op d e hop => ?_, fun i hi => encode_data_of_not_seed hi⟩
  have hdec : decode (commandWord op d) = decode (commandWord op e) := by
    simpa using decodeFields_ignores_data hop d e
  refine ⟨hdec, fun s hslot hrst => ?_⟩
  have hstep := step_busyWith_congr hdec hslot hrst
  obtain ⟨t, ht⟩ := step_answers { s with busyWith := some (commandWord op d) }
  exact ⟨fun _ => hstep, t, t, ht, hstep ▸ ht, rfl, rfl, rfl, rfl, rfl, rfl⟩

/-- Settles O40, by the move of a step with a full slot. -/
theorem slotHoldsUntilTaken : Obligations.SlotHoldsUntilTaken := by
  refine ⟨fun d e s => ⟨rfl, rfl⟩, fun s r hslot hrst => ⟨fun hready => ?_, fun hready => ?_⟩⟩
  · have hmove : s.move = .idle := by simp [State.move_of_slot hslot hrst, hready]
    exact ⟨by rw [step, hmove]; rfl, by rw [State.delivered, hmove]⟩
  · have hmove : s.move = .take := by simp [State.move_of_slot hslot hrst, hready]
    exact ⟨by rw [step, hmove]; rfl, by simp [State.delivered, hmove, hslot]⟩

/-! ## One command at a time (R65) -/

theorem State.cmdReady_eq_false_iff (s : State) :
    s.cmdReady = false ↔ s.busy = true ∨ s.rspValid = true := by
  cases hb : s.busy <;> simp [State.cmdReady, hb]

/-- Settles O41, move by move: a step accepts only when ready, and without a take or a reset what
kept the engine from being ready stays, or is replaced by a response. -/
theorem oneCommandOutstanding : Obligations.OneCommandOutstanding := by
  intro s t hbusy hstep
  have hready : s.cmdReady = false := s.cmdReady_eq_false_iff.mpr hbusy
  refine ⟨hready, ?_⟩
  obtain ⟨-, hmove, -⟩ | ⟨-, -, -, hmove, -⟩ | ⟨w, -, -, -, hmove, hrun⟩ |
    ⟨-, hslot, hnone, -, -, -⟩ | ⟨-, hmove, rfl⟩ := step_cases hstep
  · exact ⟨by simp [hmove], fun _ => .inr hmove⟩
  · exact ⟨by simp [hmove], fun _ => .inl hmove⟩
  · have ht : t.cmdReady = false := t.cmdReady_eq_false_iff.mpr (.inr (exec_rspValid hrun))
    exact ⟨by simp [hmove], by simp [ht]⟩
  · simp [State.busy, hnone, hslot] at hbusy
  · have ht : s.advance.cmdReady = false := hready
    exact ⟨by simp [hmove], by simp [ht]⟩

end Sys2Proof.Machine
end

section
/-! SUPPORT. `Init` and the seeding commands (40_seed_initializer.md R73–R80), and the statements on them. -/

namespace Sys2Proof.Machine

/-! ## The words of `Init` (R73) -/

theorem initWords_getElem (v : Word) (a : StateArray) (i : Nat) (h : i < 624) :
    (initWords v a)[i] = initSeq v i :=
  (wordAt_eq _ i h).symm.trans (wordAt_initWords v a i h)

/-- The recurrence of `Init`, read off the array it leaves. -/
theorem initWords_getElem_succ (v : Word) (a : StateArray) (i : Nat) (hpos : 1 ≤ i) (h : i < 624) :
    (initWords v a)[i] = initWord (initWords v a)[i - 1] i := by
  cases i with
  | zero => omega
  | succ k =>
    rw [initWords_getElem, initWords_getElem v a (k + 1 - 1) (by omega)]
    rfl

/-- `Init` overwrites every word of the array it finds. -/
theorem initWords_ignores_array (v : Word) (a b : StateArray) : initWords v a = initWords v b :=
  stateArray_ext _ _ fun i hi => (wordAt_initWords v a i hi).trans (wordAt_initWords v b i hi).symm

/-- Settles O4, by the word of `Init` at each index. -/
theorem initRecurrence : Obligations.InitRecurrence :=
  ⟨fun v a => ⟨initWords_getElem v a 0 (by decide), initWords_getElem_succ v a⟩,
    initWords_ignores_array, fun _ _ => rfl⟩

/-! ## The split multiplication (R75) -/

/-- A word is the sum of its two halves, the high one shifted down and up again. -/
theorem splitHigh_shift_add_splitLow (s : Word) :
    (((s &&& splitHigh) >>> 16) <<< 16) + (s &&& splitLow) = s := by
  have high : ((s &&& splitHigh) >>> 16) <<< 16 = s &&& splitHigh := by
    rw [BitVec.shiftLeft_ushiftRight, BitVec.and_assoc]; rfl
  have disjoint : (s &&& splitHigh) &&& (s &&& splitLow) = 0#32 := by
    have masks : splitHigh &&& splitLow = 0#32 := by decide
    rw [BitVec.and_comm s splitLow, BitVec.and_assoc, ← BitVec.and_assoc splitHigh, masks]
    simp
  have cover : splitHigh ||| splitLow = BitVec.allOnes 32 := by decide
  rw [high, BitVec.add_eq_or_of_and_eq_zero _ _ disjoint, ← BitVec.and_or_distrib_left, cover,
    BitVec.and_allOnes]

/-- Multiplying the halves apart is multiplying the word: the shift of the high product is a factor
2^16, which can as well stand at the half itself. -/
theorem splitMultiply_eq_mul (s : Word) :
    ((((s &&& splitHigh) >>> 16) * initMultiplier) <<< 16) + (s &&& splitLow) * initMultiplier =
      initMultiplier * s := by
  conv => rhs; rw [← splitHigh_shift_add_splitLow s]
  rw [BitVec.shiftLeft_eq_mul_twoPow, BitVec.shiftLeft_eq_mul_twoPow]
  ring

/-- One word of `Init` in closed form. -/
theorem initWord_eq_mul (p : Word) (i : Nat) :
    initWord p i = initMultiplier * (p ^^^ (p >>> 30)) + BitVec.ofNat 32 i :=
  congrArg (· + BitVec.ofNat 32 i) (splitMultiply_eq_mul (p ^^^ (p >>> 30)))

theorem initWord_toNat (p : Word) (i : Nat) :
    (initWord p i).toNat = (1812433253 * (p ^^^ (p >>> 30)).toNat + i) % 2 ^ 32 := by
  rw [initWord_eq_mul, BitVec.toNat_add, BitVec.toNat_mul, BitVec.toNat_ofNat, BitVec.toNat_ofNat]
  omega

/-- Settles O5, by the product of a word in halves and the recurrence. -/
theorem initClosedForm : Obligations.InitClosedForm :=
  ⟨splitMultiply_eq_mul, fun v a i hpos h => by
    rw [initWords_getElem_succ v a i hpos h, initWord_toNat]⟩

/-! ## The seeding commands (R77, R79) -/

/-- Settles O8: a seeding command is `Init` and `Twist`, then a response, which leaves both. -/
theorem seedingEndsInTwist : Obligations.SeedingEndsInTwist := fun s =>
  ⟨fun v => ⟨_, exec_seed v s, rfl, rfl, rfl⟩, _, exec_seedDefault s, rfl, rfl, rfl⟩

/-- Below cursor 623 `NEXT` answers the tempered word at the next index (42 R95). -/
theorem exec_next_below_623 {s : State} (h : s.cur.toNat < 623) :
    exec .next s =
      .next (s.incrementCursor.respond (temper (wordAt s.mt (s.cur.toNat + 1))) false) := by
  have hcur : s.incrementCursor.cur.toNat = s.cur.toNat + 1 := cursor_add_one s.cur (by omega)
  have hread : s.incrementCursor.cur.toNat < 624 := by omega
  rw [exec_next, s.refresh_ready (by omega), State.read_inRange _ hread, ← hcur,
    wordAt_eq _ _ hread]
  rfl

/-- The first output word of the default seed (42 R94). -/
theorem temper_word_one_defaultSeed (a : StateArray) :
    temper (wordAt (twistWords (initWords defaultSeed a)) 1) = 581869302#32 := by
  rw [wordAt_twist_init _ _ _ (by decide)]
  decide +kernel

/-- Settles O7: `SEED_DEFAULT` is the meaning of `SEED 5489`, and the `NEXT` after it reads word 1. -/
theorem seedDefaultIsSeed5489 : Obligations.SeedDefaultIsSeed5489 := by
  refine ⟨fun _ => rfl, fun _ => rfl, fun d => by simp, by decide, fun s => ?_⟩
  have hcur : ((s.seedWith defaultSeed).respond 0x00000000#32 false).cur.toNat < 623 := by simp
  refine ⟨_, _, exec_seedDefault s, exec_next_below_623 hcur, ?_⟩
  simp [temper_word_one_defaultSeed]

/-! ## States with the same stream (R80) -/

/-- The same array and cursor: what `NEXT` takes its response from. -/
def State.SameStream (s r : State) : Prop := s.mt = r.mt ∧ s.cur = r.cur

theorem State.refreshIfExhausted_sameStream {s r : State} (h : s.SameStream r) :
    s.refreshIfExhausted.SameStream r.refreshIfExhausted := by
  obtain ⟨hmt, hcur⟩ := h
  rcases Nat.lt_or_ge s.cur.toNat 624 with hs | hs
  · rw [s.refresh_ready hs, r.refresh_ready (hcur ▸ hs)]
    exact ⟨hmt, hcur⟩
  · rw [s.refresh_exhausted hs, r.refresh_exhausted (hcur ▸ hs)]
    exact ⟨congrArg twistWords hmt, rfl⟩

theorem State.incrementCursor_sameStream {s r : State} (h : s.SameStream r) :
    s.incrementCursor.SameStream r.incrementCursor :=
  ⟨h.1, congrArg (· + 1#10) h.2⟩

@[simp] theorem State.readAtCursor_mt (s : State) : s.readAtCursor.mt = s.mt := by
  by_cases h : s.cur.toNat < 624
  · simp [s.read_inRange h]
  · simp [s.read_outOfRange h]

/-- What the read of `NEXT` answers, as far as the spec says it: nothing of the data at index 624. -/
theorem State.readAtCursor_defined (s : State) :
    s.readAtCursor.slot.map Response.defined =
      some (if s.cur.toNat < 624 then some (temper (wordAt s.mt s.cur.toNat)) else none) := by
  by_cases h : s.cur.toNat < 624
  · simp [s.read_inRange h, h, Response.defined, wordAt_eq]
  · simp [s.read_outOfRange h, h, Response.defined]

theorem seedWith_sameStream (v : Word) (s r : State) : (s.seedWith v).SameStream (r.seedWith v) := by
  simp [State.SameStream, initWords_ignores_array v s.mt r.mt]

/-- A command leads states with the same stream to such states, with the same defined response. -/
theorem exec_sameStream {s r : State} (i : Instr) (h : s.SameStream r) :
    ∃ t u, exec i s = .next t ∧ exec i r = .next u ∧ t.SameStream u ∧
      t.slot.map Response.defined = u.slot.map Response.defined := by
  cases i with
  | next =>
    have hread := State.incrementCursor_sameStream (State.refreshIfExhausted_sameStream h)
    refine ⟨_, _, exec_next s, exec_next r, ?_, ?_⟩
    · simpa [State.SameStream] using hread
    · rw [State.readAtCursor_defined, State.readAtCursor_defined, hread.1, hread.2]
  | seed v =>
    exact ⟨_, _, exec_seed v s, exec_seed v r, seedWith_sameStream v s r, by simp⟩
  | seedDefault =>
    exact ⟨_, _, exec_seedDefault s, exec_seedDefault r, seedWith_sameStream defaultSeed s r, by simp⟩
  | illegal => exact ⟨_, _, exec_illegal s, exec_illegal r, h, by simp⟩

/-- The same commands from states with the same stream, by induction on the commands. -/
theorem transact_sameStream (is : List Instr) {s r : State} (h : s.SameStream r) :
    ∃ rs qs t u, transact is s = some (rs, t) ∧ transact is r = some (qs, u) ∧
      rs.map Response.defined = qs.map Response.defined ∧ t.SameStream u := by
  induction is generalizing s r with
  | nil => exact ⟨[], [], s, r, rfl, rfl, rfl, h⟩
  | cons i is ih =>
    obtain ⟨s', r', hs, hr, hstream, hslot⟩ := exec_sameStream i h
    obtain ⟨rs, qs, t, u, ht, hu, hresponses, hend⟩ :=
      ih (s := s'.takeResponse) (r := r'.takeResponse) hstream
    refine ⟨s'.slot.toList ++ rs, r'.slot.toList ++ qs, t, u, ?_, ?_, ?_, hend⟩
    · rw [transact_cons is hs, ht]; rfl
    · rw [transact_cons is hr, hu]; rfl
    · rw [List.map_append, List.map_append, ← Option.toList_map, ← Option.toList_map, hslot,
        hresponses]

/-- Settles O55: the seeding leaves the same stream in both engines and one response (0, 0), and the
`NEXT` commands after it answer alike. -/
theorem sameSeedSameResponses : Obligations.SameSeedSameResponses := by
  intro v n s r
  obtain ⟨rs, qs, t, u, ht, hu, hresponses, hmt, hcur⟩ :=
    transact_sameStream (List.replicate n .next)
      (s := ((s.seedWith v).respond 0x00000000#32 false).takeResponse)
      (r := ((r.seedWith v).respond 0x00000000#32 false).takeResponse) (seedWith_sameStream v s r)
  refine ⟨⟨0#32, false⟩ :: rs, ⟨0#32, false⟩ :: qs, t, u, ?_, ?_, ?_, hmt, hcur⟩
  · rw [transact_cons _ (exec_seed v s), ht]; rfl
  · rw [transact_cons _ (exec_seed v r), hu]; rfl
  · rw [List.map_cons, List.map_cons, hresponses]

end Sys2Proof.Machine
end

section
/-! SUPPORT. `Twist` by the words it reads, and when it runs again (41_twist_state_refresh.md R82–R91), and the
statements on them. -/

namespace Sys2Proof.Machine

/-! ## The helpers of `Twist` (R82) -/

/-- The upper mask has bit 31 alone. -/
theorem upperMask_getLsbD_of_lt : ∀ j < 31, upperMask.getLsbD j = false := by decide

/-- The lower mask has the bits below 31. -/
theorem lowerMask_getLsbD_of_lt : ∀ j < 31, lowerMask.getLsbD j = true := by decide

theorem twistY_getLsbD_31 (a b : Word) : (twistY a b).getLsbD 31 = a.getLsbD 31 := by
  have upper : upperMask.getLsbD 31 = true := by decide
  have lower : lowerMask.getLsbD 31 = false := by decide
  simp only [twistY, BitVec.getLsbD_or, BitVec.getLsbD_and, upper, lower, Bool.and_true,
    Bool.and_false, Bool.or_false]

theorem twistY_getLsbD_of_lt (a b : Word) {j : Nat} (h : j < 31) :
    (twistY a b).getLsbD j = b.getLsbD j := by
  simp only [twistY, BitVec.getLsbD_or, BitVec.getLsbD_and, upperMask_getLsbD_of_lt j h,
    lowerMask_getLsbD_of_lt j h, Bool.and_true, Bool.and_false, Bool.false_or]

/-- Bit 0 of a word, as a word. -/
theorem and_one_eq_ite (y : Word) : y &&& 1#32 = if y.getLsbD 0 then 1#32 else 0#32 := by
  rw [BitVec.and_one_eq_setWidth_ofBool_getLsbD]
  cases y.getLsbD 0 <;> rfl

/-- The factor of the matrix constant is 0 or 1, so the product selects it. -/
theorem and_one_mul_matrixA (y : Word) :
    (y &&& 1#32) * matrixA = if y.getLsbD 0 then matrixA else 0#32 := by
  rw [and_one_eq_ite]
  cases y.getLsbD 0 <;> rfl

theorem twistMag_eq_ite (y : Word) :
    twistMag y = if y.getLsbD 0 then (y >>> 1) ^^^ matrixA else y >>> 1 := by
  rw [twistMag, and_one_mul_matrixA]
  split
  · rfl
  · exact BitVec.xor_zero

/-- The product does not overflow. -/
theorem and_one_mul_matrixA_toNat (y : Word) :
    ((y &&& 1#32) * matrixA).toNat = (y &&& 1#32).toNat * 0x9908B0DF := by
  rw [and_one_eq_ite]
  cases y.getLsbD 0 <;> rfl

/-- Settles O11: the masks bit by bit, and the two values of bit 0. -/
theorem twistHelpers : Obligations.TwistHelpers :=
  ⟨fun a b => ⟨twistY_getLsbD_31 a b, fun _ h => twistY_getLsbD_of_lt a b h⟩, twistMag_eq_ite,
    and_one_mul_matrixA, and_one_mul_matrixA_toNat⟩

/-! ## Old and new reads (R85) -/

theorem twistSeq_of_lt_227 (f : Nat → Word) {i : Nat} (h : i < 227) :
    twistSeq f i = twistWord (f (i + 397)) (f i) (f (i + 1)) := by
  simp [twistSeq, h]

/-- From index 227 on the far word is new: it is the one 227 places below. -/
theorem twistSeq_of_227_le (f : Nat → Word) {i : Nat} (h227 : 227 ≤ i) (h : i < 623) :
    twistSeq f i = twistWord (twistSeq f (i - 227)) (f i) (f (i + 1)) := by
  have hnot : ¬ i < 227 := by omega
  by_cases h454 : i < 454
  · have hfar : i - 227 < 227 := by omega
    rw [twistSeq_of_lt_227 f hfar]
    simp [twistSeq, hnot, h454]
  · have hfar : ¬ i - 227 < 227 := by omega
    have hfar' : i - 227 < 454 := by omega
    have hsub : i - 227 - 227 = i - 454 := by omega
    simp [twistSeq, hnot, h454, h, hfar, hfar', hsub]

/-- The last index reads new words at both ends (90_conflicts.md C1). -/
theorem twistSeq_623 (f : Nat → Word) :
    twistSeq f 623 = twistWord (twistSeq f 396) (f 623) (twistSeq f 0) := by
  simp [twistSeq]

theorem twistWords_getElem (a : StateArray) (i : Nat) (h : i < 624) :
    (twistWords a)[i] = twistSeq (wordAt a) i :=
  (wordAt_eq _ i h).symm.trans (wordAt_twistWords a i h)

/-- Settles O12, by the recurrence of the twisted words in each range. -/
theorem twistReadsOldAndNew : Obligations.TwistReadsOldAndNew := by
  intro o
  refine ⟨fun i h => ?_, fun i h227 h => ?_, ?_⟩
  · rw [twistWords_getElem, twistSeq_of_lt_227 _ h, wordAt_eq, wordAt_eq, wordAt_eq]
    rfl
  · rw [twistWords_getElem, twistWords_getElem, twistSeq_of_227_le _ h227 h, wordAt_eq, wordAt_eq]
    rfl
  · rw [twistWords_getElem, twistWords_getElem, twistWords_getElem, twistSeq_623, wordAt_eq]
    rfl

/-! ## The single loop (R86) -/

/-- What an in-place twist of `a` finds at index `j` when it comes to index `i`: a new word below `i`,
an old one from `i` on. -/
def wordDuringTwist (a : StateArray) (i j : Nat) : Word :=
  if j < i then wordAt (twistWords a) j else wordAt a j

/-- The three ranges in one formula, index arithmetic modulo 624. -/
theorem wordAt_twistWords_mod (a : StateArray) {i : Nat} (h : i < 624) :
    wordAt (twistWords a) i =
      twistWord (wordDuringTwist a i ((i + 397) % 624)) (wordDuringTwist a i i)
        (wordDuringTwist a i ((i + 1) % 624)) := by
  rcases Nat.lt_or_ge i 227 with h227 | h227
  · have hfar : (i + 397) % 624 = i + 397 := by omega
    have hnear : (i + 1) % 624 = i + 1 := by omega
    rw [hfar, hnear, wordAt_twistWords a i h, twistSeq_of_lt_227 _ h227]
    simp [wordDuringTwist]
  · rcases Nat.lt_or_ge i 623 with h623 | h623
    · have hfar : (i + 397) % 624 = i - 227 := by omega
      have hnear : (i + 1) % 624 = i + 1 := by omega
      have hnew : i - 227 < i := by omega
      rw [hfar, hnear, wordAt_twistWords a i h, twistSeq_of_227_le _ h227 h623]
      simp [wordDuringTwist, hnew, wordAt_twistWords a (i - 227) (by omega)]
    · obtain rfl : i = 623 := by omega
      rw [wordAt_twistWords a 623 h, twistSeq_623]
      simp [wordDuringTwist, wordAt_twistWords]

/-- The single loop before index `n` has written the words below `n`, by induction on `n`. -/
theorem twistModLoop_getElem (a : StateArray) (n : Nat) (hn : n ≤ 624) (j : Nat) (hj : j < 624) :
    (twistModLoop n hn a)[j] = wordDuringTwist a n j := by
  induction n generalizing j with
  | zero => simp [twistModLoop, wordDuringTwist, wordAt_eq a j hj]
  | succ i ih =>
    rw [twistModLoop]
    by_cases hji : j = i
    · subst hji
      rw [Vector.getElem_set_self, ih, ih, ih]
      simpa [wordDuringTwist, twistWord] using (wordAt_twistWords_mod a hj).symm
    · have hlt : j < i + 1 ↔ j < i := by omega
      rw [Vector.getElem_set_ne _ _ (Ne.symm hji), ih]
      simp [wordDuringTwist, hlt]

/-- Settles O13: once past the last index, the single loop has every word of the twist. -/
theorem twistEqualsSingleLoop : Obligations.TwistEqualsSingleLoop := fun a =>
  stateArray_ext _ _ fun i hi => by
    rw [wordAt_eq (twistModLoop 624 _ a) i hi, twistModLoop_getElem, wordDuringTwist, if_pos hi]

/-! ## The cadence of the refresh (R91) -/

theorem State.phase_eq_exhausted_iff (s : State) : s.phase = .exhausted ↔ 624 ≤ s.cur.toNat := by
  simp [State.phase]

/-- `NEXT` twists exactly when the engine is exhausted. -/
theorem State.refreshIfExhausted_mt (s : State) :
    s.refreshIfExhausted.mt = if s.phase = .exhausted then twistWords s.mt else s.mt := by
  by_cases h : 624 ≤ s.cur.toNat
  · simp [s.refresh_exhausted h, s.phase_eq_exhausted_iff, h]
  · simp [s.refresh_ready (by omega), s.phase_eq_exhausted_iff, h]

/-- The cursor after `NEXT`, from the cursor before it. -/
def cursorAfterNext (c : Nat) : Nat := if c < 624 then c + 1 else 1

/-- `n` calls of `NEXT` answer, and move the cursor `n` times. -/
theorem transact_replicate_next (n : Nat) (s : State) :
    ∃ rs t, transact (List.replicate n .next) s = some (rs, t) ∧
      t.cur.toNat = cursorAfterNext^[n] s.cur.toNat := by
  induction n generalizing s with
  | zero => exact ⟨[], s, rfl, rfl⟩
  | succ n ih =>
    obtain ⟨rs, t, ht, hcur⟩ := ih s.refreshIfExhausted.incrementCursor.readAtCursor.takeResponse
    refine ⟨s.refreshIfExhausted.incrementCursor.readAtCursor.slot.toList ++ rs, t, ?_, ?_⟩
    · rw [List.replicate_succ, transact_cons _ (exec_next s), ht]
      rfl
    · rw [hcur, State.takeResponse_cur, State.readAtCursor_cur, s.nextCursor_toNat]
      rfl

/-- From 0 the cursor runs through 1..624 again and again. -/
theorem cursorAfterNext_iterate_zero (n : Nat) : cursorAfterNext^[n + 1] 0 = n % 624 + 1 := by
  induction n with
  | zero => rfl
  | succ n ih =>
    rw [Function.iterate_succ_apply', ih, cursorAfterNext]
    split <;> omega

/-- The cursor is used up exactly after a positive multiple of 624 calls. -/
theorem cursorAfterNext_iterate_exhausted_iff (n : Nat) :
    624 ≤ cursorAfterNext^[n] 0 ↔ ∃ k, 1 ≤ k ∧ n = 624 * k := by
  cases n with
  | zero => simp
  | succ m =>
    rw [cursorAfterNext_iterate_zero]
    constructor
    · intro h
      exact ⟨(m + 1) / 624, by omega, by omega⟩
    · rintro ⟨k, hk, hm⟩
      omega

/-- Settles O54, from the cursor after `n` calls. -/
theorem refreshCadence : Obligations.RefreshCadence := by
  intro s n hzero
  obtain ⟨rs, t, ht, hcur⟩ := transact_replicate_next n s
  refine ⟨rs, t, _, ht, ?_, exec_next t, ?_⟩
  · rw [t.phase_eq_exhausted_iff, hcur, hzero]
    exact cursorAfterNext_iterate_exhausted_iff n
  · rw [State.readAtCursor_mt, State.incrementCursor_mt, t.refreshIfExhausted_mt]

end Sys2Proof.Machine
end

section
/-! SUPPORT. `Temper` and the output command `NEXT` (42_tempering_output_stage.md R92–R103), and the statements on
them. -/

namespace Sys2Proof.Machine

/-! ## `Temper` (R92, R94) -/

/-- Settles O15: the four steps are the definition. -/
theorem temperSteps : Obligations.TemperSteps := by
  rintro x _ _ _ _ rfl rfl rfl rfl
  rfl

/-- Word 1 after a seeding with the default seed (R94). -/
theorem twistWords_initWords_defaultSeed_word_one (a : StateArray) :
    (twistWords (initWords defaultSeed a))[1] = 0xE99DE361#32 := by
  rw [← wordAt_eq _ 1 (by decide), wordAt_twist_init _ _ _ (by decide)]
  decide +kernel

/-- Settles O17: word 1 by the recurrences of `Init` and `Twist`, the steps evaluated. -/
theorem temperWorkedExample : Obligations.TemperWorkedExample :=
  ⟨twistWords_initWords_defaultSeed_word_one, by decide, by decide, by decide, by decide, by decide⟩

/-! ## What the defined part of a response says -/

/-- A response has defined data exactly when its error bit is 0. -/
theorem Response.err_eq_isNone_defined (r : Response) : r.err = r.defined.isNone := by
  cases h : r.err <;> simp [Response.defined, h]

theorem Response.eq_of_defined_eq_some {r : Response} {d : Word} (h : r.defined = some d) :
    r = ⟨d, false⟩ := by
  obtain ⟨data, err⟩ := r
  cases err with
  | false => simpa [Response.defined] using h
  | true => simp [Response.defined] at h

/-- Responses with the same defined part have the same error bit. -/
theorem map_err_eq_of_map_defined_eq {o p : Option Response}
    (h : o.map Response.defined = p.map Response.defined) :
    o.map Response.err = p.map Response.err := by
  have herr : Response.err = Option.isNone ∘ Response.defined :=
    funext Response.err_eq_isNone_defined
  rw [herr, ← Option.map_map, ← Option.map_map, h]

/-- Settles O22: states that differ in FAULT have the same stream. -/
theorem nextIgnoresFault : Obligations.NextIgnoresFault := by
  intro s f
  have hstream : ({ s with fault := f } : State).SameStream s := ⟨rfl, rfl⟩
  obtain ⟨u, t, hu, ht, ⟨hmt, hcur⟩, hdefined⟩ := exec_sameStream .next hstream
  exact ⟨t, u, ht, hu, hmt, hcur, map_err_eq_of_map_defined_eq hdefined, hdefined⟩

/-! ## One `NEXT` (R95, R103) -/

/-- The state `NEXT` leaves. -/
def State.afterNext (s : State) : State := s.refreshIfExhausted.incrementCursor.readAtCursor

theorem exec_next_eq_afterNext (s : State) : exec .next s = .next s.afterNext := rfl

theorem cursorAfterNext_of_lt {c : Nat} (h : c < 624) : cursorAfterNext c = c + 1 := if_pos h

theorem cursorAfterNext_of_le {c : Nat} (h : 624 ≤ c) : cursorAfterNext c = 1 :=
  if_neg (Nat.not_lt.mpr h)

/-- `NEXT` from cursor 623 is the read at index 624. -/
theorem State.afterNext_at_623 {s : State} (h : s.cur.toNat = 623) :
    s.afterNext = (s.incrementCursor.raise .oob).afterDraw.respond s.drawn true :=
  Host.Outcome.next.inj ((exec_next_eq_afterNext s).symm.trans (exec_next_at_623 h))

theorem State.afterNext_cur_toNat (s : State) :
    s.afterNext.cur.toNat = cursorAfterNext s.cur.toNat := by
  rw [State.afterNext, State.readAtCursor_cur, s.nextCursor_toNat, cursorAfterNext]

theorem State.afterNext_mt (s : State) :
    s.afterNext.mt = if s.phase = .exhausted then twistWords s.mt else s.mt := by
  rw [State.afterNext, State.readAtCursor_mt, State.incrementCursor_mt, s.refreshIfExhausted_mt]

/-- The defined part of the response that goes with a cursor: the tempered word there, and nothing at
index 624. -/
def State.outputAtCursor (s : State) : Option Word :=
  if s.cur.toNat < 624 then some (temper (wordAt s.mt s.cur.toNat)) else none

/-- The response of `NEXT` is that of the array and cursor it leaves. -/
theorem State.afterNext_slot (s : State) :
    ∃ r, s.afterNext.slot = some r ∧ r.defined = s.afterNext.outputAtCursor := by
  have hdefined := s.refreshIfExhausted.incrementCursor.readAtCursor_defined
  obtain ⟨r, hslot, hr⟩ := Option.map_eq_some_iff.mp hdefined
  exact ⟨r, hslot, by simp [hr, State.outputAtCursor, State.afterNext]⟩

theorem State.phase_eq_ready_iff (s : State) : s.phase = .ready ↔ s.cur.toNat < 624 := by
  simp [State.phase]

/-- Settles O23, from the cursor `NEXT` leaves in each of its three cases. -/
theorem nextPhaseTransitions : Obligations.NextPhaseTransitions := by
  intro s
  have hcur := s.afterNext_cur_toNat
  refine ⟨s.afterNext, exec_next_eq_afterNext s, fun hlt => ?_, fun hlast => ?_, fun hex => ?_⟩
  · rw [cursorAfterNext_of_lt (by omega)] at hcur
    exact ⟨s.phase_eq_ready_iff.mpr (by omega), s.afterNext.phase_eq_ready_iff.mpr (by omega), hcur⟩
  · rw [cursorAfterNext_of_lt (by omega), hlast] at hcur
    refine ⟨s.phase_eq_ready_iff.mpr (by omega), s.afterNext.phase_eq_exhausted_iff.mpr (by omega),
      hcur, ?_⟩
    rw [State.afterNext_at_623 hlast]
    rfl
  · rw [cursorAfterNext_of_le (s.phase_eq_exhausted_iff.mp hex)] at hcur
    exact ⟨s.afterNext.phase_eq_ready_iff.mpr (by omega), by rw [s.afterNext_mt, if_pos hex], hcur⟩

/-! ## The read at index 624 (R97) -/

theorem faultOob_raiseIn_oob (f : FaultReg) : faultOob (raiseIn .oob f) = true := by
  simp [faultOob, raiseIn, causeCode]

theorem faultIll_raiseIn_oob (f : FaultReg) : faultIll (raiseIn .oob f) = faultIll f := by
  simp [faultIll, raiseIn, causeCode]

/-- Settles O19: the read at 624 raises OOB and leaves the engine exhausted, so the `NEXT` after it twists. -/
theorem readAtIndex624Faults : Obligations.ReadAtIndex624Faults := by
  intro s h
  obtain ⟨t, ht, -, htransition, -⟩ := nextPhaseTransitions s
  obtain ⟨-, hexhausted, hcur, -⟩ := htransition h
  obtain ⟨u, hu, -, -, hrefresh⟩ := nextPhaseTransitions t
  obtain ⟨-, hmt, hone⟩ := hrefresh hexhausted
  obtain rfl := Host.Outcome.next.inj (ht.symm.trans (exec_next_at_623 h))
  exact ⟨_, u, s.drawn, ht, rfl, faultOob_raiseIn_oob s.fault, faultIll_raiseIn_oob s.fault, rfl,
    BitVec.eq_of_toNat_eq hcur, raiseIn_ne_zero .oob s.fault, hu, hmt, BitVec.eq_of_toNat_eq hone⟩

/-! ## Many calls of `NEXT` (R101) -/

/-- One command more at the end, at transaction level. -/
theorem transact_concat {is : List Instr} {i : Instr} {s t u : State} {rs : List Response}
    (h : transact is s = some (rs, t)) (hi : exec i t = .next u) :
    transact (is ++ [i]) s = some (rs ++ u.slot.toList, u.takeResponse) := by
  induction is generalizing s rs with
  | nil =>
    obtain ⟨rfl, rfl⟩ := Prod.mk.inj (Option.some.inj h)
    rw [List.nil_append, transact_cons _ hi]
    simp [transact]
  | cons j js ih =>
    obtain ⟨s', r, hs', -⟩ := everyCommandAnswers j s
    rw [transact_cons js hs', Option.map_eq_some_iff] at h
    obtain ⟨⟨qs, t'⟩, hjs, heq⟩ := h
    obtain ⟨rfl, rfl⟩ := Prod.mk.inj heq
    rw [List.cons_append, transact_cons _ hs', ih hjs]
    simp

/-- What `n` calls of `NEXT` from cursor 0 answer and leave: the array has been refreshed once per 624
calls before the last, and the last response is that of the array and cursor left. -/
structure NextCalls (s : State) (n : Nat) (rs : List Response) (t : State) : Prop where
  run : transact (List.replicate n .next) s = some (rs, t)
  length : rs.length = n
  cur : t.cur.toNat = cursorAfterNext^[n] 0
  mt : t.mt = twistWords^[(n - 1) / 624] s.mt
  last : ∀ r ∈ rs.getLast?, r.defined = t.outputAtCursor

theorem nextCalls_zero {s : State} (h : s.cur = 0#10) : NextCalls s 0 [] s where
  run := rfl
  length := rfl
  cur := by simp [h]
  mt := rfl
  last := by simp

/-- The array after one call more: the call twists exactly when `n` is a positive multiple of 624. -/
theorem NextCalls.afterNext_mt {s t : State} {n : Nat} {rs : List Response}
    (h : NextCalls s n rs t) : t.afterNext.mt = twistWords^[n / 624] s.mt := by
  have hphase : t.phase = .exhausted ↔ ∃ k, 1 ≤ k ∧ n = 624 * k := by
    rw [t.phase_eq_exhausted_iff, h.cur, cursorAfterNext_iterate_exhausted_iff]
  rw [t.afterNext_mt, h.mt]
  split
  next hex =>
    obtain ⟨k, hk, hn⟩ := hphase.mp hex
    have hcount : n / 624 = (n - 1) / 624 + 1 := by omega
    rw [hcount, Function.iterate_succ_apply']
  next hready =>
    have hcount : n / 624 = (n - 1) / 624 := by
      by_contra hne
      exact hready (hphase.mpr ⟨n / 624, by omega, by omega⟩)
    rw [hcount]

theorem NextCalls.succ {s t : State} {n : Nat} {rs : List Response} (h : NextCalls s n rs t) :
    NextCalls s (n + 1) (rs ++ t.afterNext.slot.toList) t.afterNext.takeResponse := by
  obtain ⟨r, hslot, hr⟩ := t.afterNext_slot
  exact {
    run := by
      rw [List.replicate_succ']
      exact transact_concat h.run (exec_next_eq_afterNext t)
    length := by simp [hslot, h.length]
    cur := by
      rw [Function.iterate_succ_apply', ← h.cur]
      exact t.afterNext_cur_toNat
    mt := h.afterNext_mt
    last := by
      simp only [hslot, Option.toList_some, List.getLast?_concat, Option.mem_some, forall_eq']
      exact hr }

theorem exists_nextCalls {s : State} (h : s.cur = 0#10) (n : Nat) : ∃ rs t, NextCalls s n rs t := by
  induction n with
  | zero => exact ⟨[], s, nextCalls_zero h⟩
  | succ n ih =>
    obtain ⟨rs, t, ht⟩ := ih
    exact ⟨_, _, ht.succ⟩

/-- Call 624 e + k of `NEXT`, with k in 1..624, leaves cursor k. -/
theorem cursorAfterNext_iterate_epoch (e k : Nat) (hpos : 1 ≤ k) (hk : k ≤ 624) :
    cursorAfterNext^[624 * e + k] 0 = k := by
  obtain ⟨j, rfl⟩ : ∃ j, k = j + 1 := ⟨k - 1, by omega⟩
  rw [← Nat.add_assoc, cursorAfterNext_iterate_zero]
  omega

/-- Settles O53, from the cursor, the array and the last response after 624 e + k calls. -/
theorem epochStructure : Obligations.EpochStructure := by
  intro v a s hzero hmt e k hpos hk
  obtain ⟨rs, t, ht⟩ := exists_nextCalls hzero (624 * e + k)
  have hcur : t.cur.toNat = k := ht.cur.trans (cursorAfterNext_iterate_epoch e k hpos hk)
  have hepoch : (624 * e + k - 1) / 624 = e := by omega
  have hne : rs ≠ [] := List.ne_nil_of_length_pos (by rw [ht.length]; omega)
  obtain ⟨r, hlast⟩ : ∃ r, rs.getLast? = some r := ⟨_, List.getLast?_eq_some_getLast hne⟩
  have hr : r.defined = t.outputAtCursor := ht.last r hlast
  rw [State.outputAtCursor, hcur] at hr
  refine ⟨rs, t, ht.run, ht.length, hcur, ?_, fun hlt => ?_, fun hend => ⟨r.data, ?_⟩⟩
  · rw [ht.mt, hepoch, hmt, Function.iterate_succ_apply]
  · rw [if_pos hlt, wordAt_eq _ _ hlt] at hr
    rw [hlast, Response.eq_of_defined_eq_some hr]
  · have herr : r.err = true := by
      rw [r.err_eq_isNone_defined, hr, if_neg (by omega)]
      rfl
    rw [hlast, ← herr]

end Sys2Proof.Machine
end

section
/-! SUPPORT. What raises a FAULT bit, and the priority of reset (60_exceptions.md R104, R110), and the statements on
them. -/

namespace Sys2Proof.Machine

/-! ## FAULT after a command (R104) -/

@[simp] theorem State.refreshIfExhausted_fault (s : State) : s.refreshIfExhausted.fault = s.fault := by
  rcases Nat.lt_or_ge s.cur.toNat 624 with h | h
  · rw [s.refresh_ready h]
  · rw [s.refresh_exhausted h, State.twist_fault]

/-- From cursor 623 `NEXT` raises OOB, by its read at index 624. -/
theorem State.afterNext_fault_at_623 {s : State} (h : s.cur.toNat = 623) :
    s.afterNext.fault = raiseIn .oob s.fault := by
  simp [State.afterNext_at_623 h]

/-- From every other cursor the read of `NEXT` is in range and raises nothing. -/
theorem State.afterNext_fault_of_ne {s : State} (h : s.cur.toNat ≠ 623) :
    s.afterNext.fault = s.fault := by
  simp [State.afterNext, State.read_inRange _ (s.nextCursor_lt_iff.mpr h)]

/-- What a command does to FAULT: `ILLEGAL` raises ILL, `NEXT` from cursor 623 raises OOB, and every
other command leaves the register. -/
theorem exec_fault_cases {i : Instr} {s t : State} (h : exec i s = .next t) :
    (i = .illegal ∧ t.fault = raiseIn .ill s.fault) ∨
    (i = .next ∧ s.cur.toNat = 623 ∧ t.fault = raiseIn .oob s.fault) ∨
    (i ≠ .illegal ∧ ¬ (i = .next ∧ s.cur.toNat = 623) ∧ t.fault = s.fault) := by
  cases i with
  | next =>
    obtain rfl := Host.Outcome.next.inj ((exec_next_eq_afterNext s).symm.trans h)
    by_cases hlast : s.cur.toNat = 623
    · exact .inr (.inl ⟨rfl, hlast, State.afterNext_fault_at_623 hlast⟩)
    · exact .inr (.inr ⟨nofun, fun hn => hlast hn.2, State.afterNext_fault_of_ne hlast⟩)
  | seed v =>
    obtain rfl := Host.Outcome.next.inj ((exec_seed v s).symm.trans h)
    exact .inr (.inr ⟨nofun, nofun, by simp⟩)
  | seedDefault =>
    obtain rfl := Host.Outcome.next.inj ((exec_seedDefault s).symm.trans h)
    exact .inr (.inr ⟨nofun, nofun, by simp⟩)
  | illegal =>
    obtain rfl := Host.Outcome.next.inj ((exec_illegal s).symm.trans h)
    exact .inl ⟨rfl, by simp⟩

/-- The moves of the handshake and the idle step leave FAULT. -/
theorem step_fault_of_no_run {s t : State} (h : step s = .next t) (hrun : ∀ w, s.move ≠ .run w)
    (hreset : s.move ≠ .reset) : t.fault = s.fault := by
  obtain ⟨-, hmove, -⟩ | ⟨-, -, -, -, rfl⟩ | ⟨w, -, -, -, hmove, -⟩ | ⟨-, -, -, -, -, rfl⟩ |
    ⟨-, -, rfl⟩ := step_cases h
  · exact absurd hmove hreset
  · simp
  · exact absurd hmove (hrun w)
  · simp
  · simp

/-- Settles O27, from what a command does to FAULT and what the other moves do. -/
theorem faultCauses : Obligations.FaultCauses := by
  refine ⟨rfl, rfl, fun i s t h => ?_, fun s t => step_fault_of_no_run⟩
  obtain ⟨hi, hfault⟩ | ⟨rfl, hlast, hfault⟩ | ⟨hill, hoob, hfault⟩ := exec_fault_cases h
  · rw [if_pos hi, hfault, raiseIn]
  · rw [if_neg nofun, if_pos ⟨rfl, hlast⟩, hfault, raiseIn]
  · rw [if_neg hill, if_neg hoob, hfault, BitVec.or_zero]

/-! ## One cause, and reset first (R110) -/

/-- Settles O28: raising one cause from a clear FAULT gives its code, which has the other bit clear;
and the move of a step with reset asserted is reset. -/
theorem oneCauseAndResetFirst : Obligations.OneCauseAndResetFirst := by
  refine ⟨fun i s t h hclear => ?_, fun s t hrst h => ?_⟩
  · obtain ⟨hi, hfault⟩ | ⟨hi, -, hfault⟩ | ⟨-, -, hfault⟩ := exec_fault_cases h
    · rw [hfault, hclear]
      exact ⟨by decide, fun hoob => absurd hoob (by decide), fun _ => hi⟩
    · rw [hfault, hclear]
      exact ⟨by decide, fun _ => hi, fun hill => absurd hill (by decide)⟩
    · rw [hfault, hclear]
      exact ⟨by decide, fun hoob => absurd hoob (by decide), fun hill => absurd hill (by decide)⟩
  · have hmove : s.move = .reset := if_pos hrst
    rw [step, hmove] at h
    obtain rfl := Host.Outcome.next.inj h
    exact ⟨hmove, by simp, by simp⟩

end Sys2Proof.Machine
end

section
/-! SUPPORT. The state reset leaves, and the response nobody takes (70_reset_and_hazards.md R121–R126), and the
statements on them. -/

namespace Sys2Proof.Machine

/-! ## The state after reset (R121) -/

/-- `Init` writes over whatever array it finds, so the reset array is that of any seeding with the
default seed. -/
theorem State.reset_mt (a : StateArray) : State.reset.mt = twistWords (initWords defaultSeed a) :=
  congrArg twistWords (initWords_ignores_array defaultSeed _ a)

theorem State.reset_mt_getElem (i : Nat) (h : i < 624) :
    State.reset.mt[i] = twistSeq (initSeq defaultSeed) i :=
  (wordAt_eq _ i h).symm.trans (wordAt_twist_init defaultSeed _ i h)

/-- Settles O1: the six words by the recurrences of `Init` and `Twist`, the other fields as they are
written in the reset state. -/
theorem stateAfterReset : Obligations.StateAfterReset := by
  refine ⟨State.reset_mt, ?_, ?_, ?_, ?_, ?_, ?_, rfl, rfl, rfl, rfl, rfl, rfl, rfl⟩ <;>
    rw [State.reset_mt_getElem] <;> decide +kernel

/-! ## Reset at the port (R122) -/

/-- With reset asserted the move is reset, whatever else is pending (60_exceptions.md R110). -/
theorem State.move_of_rst {s : State} (hrst : s.ports.rst = true) : s.move = .reset :=
  if_pos hrst

/-- Settles O2: the step applies reset, and only a take delivers a response. -/
theorem resetAbandonsCommandAndResponse : Obligations.ResetAbandonsCommandAndResponse := by
  intro s hrst
  have hmove := s.move_of_rst hrst
  have hstep : step s = .next s.advance.applyReset := by rw [step, hmove]
  have hdelivered : s.delivered = [] := by rw [State.delivered, hmove]
  exact ⟨s.advance.applyReset, hstep, (State.reset_mt s.mt).symm, rfl, rfl, rfl, rfl, hdelivered⟩

/-! ## Reset and the default seeding (R123) -/

/-- Settles O3: both commands are the seeding with the default seed, which like reset leaves the array
of the reset state whatever array it found. -/
theorem resetEqualsDefaultSeeding : Obligations.ResetEqualsDefaultSeeding := by
  intro s r i hi
  have hexec : exec i s = .next ((s.seedWith defaultSeed).respond 0x00000000#32 false) := by
    obtain rfl | rfl := hi
    · exact exec_seedDefault s
    · exact exec_seed 5489#32 s
  have hmt : twistWords (initWords defaultSeed s.mt) = twistWords (initWords defaultSeed r.mt) :=
    (State.reset_mt s.mt).symm.trans (State.reset_mt r.mt)
  exact ⟨_, hexec, hmt, rfl, rfl, rfl, rfl, rfl⟩

/-! ## A response nobody takes (R126) -/

/-- An idle step adds nothing to a run but the use of its port levels. -/
theorem observe_succ_of_idle {s : State} (k : Nat) (hrst : s.ports.rst = false)
    (hmove : s.move = .idle) : observe (k + 1) s = observe k s.advance := by
  have hstep : step s = .next s.advance := by rw [step, hmove]
  have hafter : Run.after s = id := by
    funext r
    simp [Run.after, State.accepted, State.delivered, hmove]
  rw [observe_succ k hrst hstep, hafter, Option.map_id, id]

/-- What holds of a quiet host's levels and of the next levels in the list holds of the levels at the
ports. -/
theorem State.ports_of_forall_take {P : PortsIn → Prop} {s : State} {k : Nat} (hquiet : P .quiet)
    (h : ∀ p ∈ s.inputs.take (k + 1), P p) : P s.ports := by
  rw [State.ports]
  cases hin : s.inputs with
  | nil => exact hquiet
  | cons p ps => exact h p (by simp [hin])

/-- Settles O43, by induction on the number of steps: with the slot full and `rsp_ready` 0 each of them
is idle. -/
theorem untakenResponseStalls : Obligations.UntakenResponseStalls := by
  intro k
  induction k with
  | zero => exact fun s r _ _ => rfl
  | succ k ih =>
    intro s r hslot hhost
    obtain ⟨hrst, hready⟩ : s.ports.rst = false ∧ s.ports.rspReady = false :=
      State.ports_of_forall_take ⟨rfl, rfl⟩ hhost
    have hmove : s.move = .idle := by simp [State.move_of_slot hslot hrst, hready]
    have hrest : ∀ p ∈ s.advance.inputs.take k, p.rst = false ∧ p.rspReady = false := by
      intro p hp
      rw [State.advance_inputs, ← List.drop_one, List.take_drop] at hp
      exact hhost p (List.mem_of_mem_drop (Nat.add_comm 1 k ▸ hp))
    rw [observe_succ_of_idle k hrst hmove, ih s.advance r hslot hrest]
    simp [State.advance]

end Sys2Proof.Machine
end

section
/-! SUPPORT. The decoder and the encoder undo each other (30_encoding.md R55–R59, R70), and the statement on it. -/

namespace Sys2Proof

/-- A command word is its two fields. -/
theorem commandWord_opField_dataField (w : CommandWord) :
    commandWord (opField w) (dataField w) = w :=
  (BitVec.extractLsb'_append_extractLsb'_eq_extractLsb' (start₂ := 32) (start₁ := 0) rfl).trans
    BitVec.extractLsb'_eq_self

/-- Masking the low 32 bits away leaves the opcode over zeros. -/
theorem commandWord_and_opMask (op : BitVec 2) (d : Word) :
    commandWord op d &&& 0x300000000#34 = commandWord op 0#32 := by
  have mask : 0x300000000#34 = BitVec.allOnes 2 ++ 0#32 := by decide
  rw [mask, commandWord, BitVec.and_append, BitVec.and_allOnes, BitVec.and_zero, commandWord]

/-- The values of the opcode field (R56). -/
theorem op_cases : ∀ op : BitVec 2, op = 0b00#2 ∨ op = 0b01#2 ∨ op = 0b10#2 ∨ op = 0b11#2 := by
  decide

/-- Encoding what an opcode and data decode to keeps the opcode, and the data beside that of `SEED`. -/
theorem encode_decodeFields (op : BitVec 2) (d : Word) :
    encode (decodeFields op d) = if op = 0b01#2 then commandWord op d else commandWord op 0#32 := by
  obtain rfl | rfl | rfl | rfl := op_cases op <;> rfl

theorem decode_encode (i : Instr) : decode (encode i) = i := by
  rw [encode, decode_commandWord]
  cases i <;> rfl

theorem encode_decode (w : CommandWord) :
    encode (decode w) = if opField w = 0b01#2 then w else w &&& 0x300000000#34 := by
  conv => rhs; rw [← commandWord_opField_dataField w]
  rw [opField_commandWord, commandWord_and_opMask]
  exact encode_decodeFields (opField w) (dataField w)

/-- Settles O33: one direction command by command, the other by the fields of the word. -/
theorem decodeEncodeRoundTrip : Obligations.DecodeEncodeRoundTrip :=
  ⟨decode_encode, encode_decode⟩

end Sys2Proof
end

section
/-! SUPPORT. `Twist` on arrays of zeros, and `Temper` as a bijection (41_twist_state_refresh.md §3,
42_tempering_output_stage.md §1), and the statements on them. -/

namespace Sys2Proof.Machine

/-! ## `Twist` on arrays of zeros -/

/-- Between zero words only the top bit of the word itself would enter. -/
theorem twistWord_zero {a : Word} (h : a &&& upperMask = 0#32) : twistWord 0#32 a 0#32 = 0#32 := by
  rw [twistWord, twistY, h]
  decide

/-- When the words from index 1 on are zero and the top bit of word 0 is clear, every new word is zero:
by induction on the index, the far word being an old zero or a new one. -/
theorem twistSeq_eq_zero {f : Nat → Word} (hzero : f 0 &&& upperMask = 0#32)
    (hrest : ∀ j, 1 ≤ j → f j = 0#32) (i : Nat) (h : i < 624) : twistSeq f i = 0#32 := by
  have htop (j : Nat) : f j &&& upperMask = 0#32 := by
    cases j with
    | zero => exact hzero
    | succ j => rw [hrest (j + 1) (by omega)]; exact BitVec.zero_and
  induction i using Nat.strong_induction_on with
  | _ i ih =>
    rcases Nat.lt_or_ge i 227 with h227 | h227
    · rw [twistSeq_of_lt_227 f h227, hrest (i + 397) (by omega), hrest (i + 1) (by omega)]
      exact twistWord_zero (htop i)
    · rcases Nat.lt_or_ge i 623 with h623 | h623
      · rw [twistSeq_of_227_le f h227 h623, ih (i - 227) (by omega) (by omega),
          hrest (i + 1) (by omega)]
        exact twistWord_zero (htop i)
      · obtain rfl : i = 623 := by omega
        rw [twistSeq_623, ih 396 (by omega) (by omega), ih 0 (by omega) (by omega)]
        exact twistWord_zero (htop 623)

theorem wordAt_replicate_zero (i : Nat) : wordAt (Vector.replicate 624 0#32) i = 0#32 := by
  simp [wordAt]

theorem twistWords_eq_zero {a : StateArray} (hzero : wordAt a 0 &&& upperMask = 0#32)
    (hrest : ∀ j, 1 ≤ j → wordAt a j = 0#32) : twistWords a = Vector.replicate 624 0#32 :=
  stateArray_ext _ _ fun i hi => by
    rw [wordAt_twistWords a i hi, twistSeq_eq_zero hzero hrest i hi, wordAt_replicate_zero]

/-- A write to word 0 leaves the words from index 1 on. -/
theorem wordAt_set_zero_of_pos (a : StateArray) (w : Word) {j : Nat} (h : 1 ≤ j) :
    wordAt (a.set 0 w) j = wordAt a j := by
  by_cases hj : j < 624
  · rw [wordAt_eq _ j hj, wordAt_eq _ j hj, Vector.getElem_set_ne _ _ (by omega)]
  · simp [wordAt, hj]

/-- Settles O14: both arrays are zero from index 1 on, with the top bit of word 0 clear. -/
theorem twistOfZeroArrays : Obligations.TwistOfZeroArrays := by
  intro s hs
  have hmt : twistWords s.mt = Vector.replicate 624 0#32 := by
    obtain h | h := hs
    · rw [h]
      exact twistWords_eq_zero (by rw [wordAt_replicate_zero]; exact BitVec.zero_and)
        fun j _ => wordAt_replicate_zero j
    · rw [h]
      refine twistWords_eq_zero ?_ fun j hj => ?_
      · rw [wordAt_eq _ 0 (by decide), Vector.getElem_set_self]; decide
      · rw [wordAt_set_zero_of_pos _ _ hj, wordAt_replicate_zero]
  rw [State.twist, hmt]

/-! ## `Temper` is a bijection

Each of its steps XORs a word with a shifted copy of itself, so that a bit of the result is that bit of
the word XOR a bit further up or down, which is known already. -/

/-- By induction from the top bit down. -/
theorem xor_ushiftRight_injective {w k : Nat} (hk : 0 < k) :
    Function.Injective fun x : BitVec w => x ^^^ (x >>> k) := by
  intro x y h
  have hbits (d i : Nat) (hd : w ≤ i + d) : x.getLsbD i = y.getLsbD i := by
    induction d generalizing i with
    | zero => rw [x.getLsbD_of_ge i hd, y.getLsbD_of_ge i hd]
    | succ d ih =>
      have hi := congrArg (BitVec.getLsbD · i) h
      simp only [BitVec.getLsbD_xor, BitVec.getLsbD_ushiftRight] at hi
      rw [ih (k + i) (by omega)] at hi
      exact Bool.xor_left_inj.mp hi
  exact BitVec.eq_of_getLsbD_eq fun i _ => hbits w i (by omega)

/-- By induction from bit 0 up; a bit outside the mask is the word's own. -/
theorem xor_shiftLeft_and_injective {w k : Nat} (hk : 0 < k) (m : BitVec w) :
    Function.Injective fun x : BitVec w => x ^^^ ((x <<< k) &&& m) := by
  intro x y h
  refine BitVec.eq_of_getLsbD_eq fun i hi => ?_
  induction i using Nat.strong_induction_on with
  | _ i ih =>
    have hbit := congrArg (BitVec.getLsbD · i) h
    simp only [BitVec.getLsbD_xor, BitVec.getLsbD_and, BitVec.getLsbD_shiftLeft] at hbit
    by_cases hik : i < k
    · simpa [hik] using hbit
    · rw [ih (i - k) (by omega) (by omega)] at hbit
      exact Bool.xor_left_inj.mp hbit

theorem temper_injective : Function.Injective temper := fun _ _ h =>
  xor_ushiftRight_injective (by decide) <| xor_shiftLeft_and_injective (by decide) temperB <|
    xor_shiftLeft_and_injective (by decide) temperC <| xor_ushiftRight_injective (by decide) h

theorem temper_xor (x y : Word) : temper (x ^^^ y) = temper x ^^^ temper y := by
  have right (k : Nat) (x y : Word) :
      (x ^^^ y) ^^^ ((x ^^^ y) >>> k) = (x ^^^ (x >>> k)) ^^^ (y ^^^ (y >>> k)) := by
    rw [BitVec.ushiftRight_xor_distrib]; ac_rfl
  have left (k : Nat) (m x y : Word) : (x ^^^ y) ^^^ (((x ^^^ y) <<< k) &&& m) =
      (x ^^^ ((x <<< k) &&& m)) ^^^ (y ^^^ ((y <<< k) &&& m)) := by
    have hand : ((x <<< k) ^^^ (y <<< k)) &&& m = ((x <<< k) &&& m) ^^^ ((y <<< k) &&& m) :=
      BitVec.eq_of_getLsbD_eq fun i _ => by simp [Bool.and_xor_distrib_right]
    rw [BitVec.shiftLeft_xor_distrib, hand]; ac_rfl
  simp only [temper, right, left]

/-- Settles O16: injective step by step, so bijective on the finite set of words; linear step by step. -/
theorem temperIsBijective : Obligations.TemperIsBijective :=
  ⟨Finite.injective_iff_bijective.mp temper_injective, temper_xor, by decide, by decide⟩

end Sys2Proof.Machine
end

section
/-! SUPPORT. The next state and the frame of each command (30_encoding.md R61, 40_seed_initializer.md R78,
42_tempering_output_stage.md R95–R99), and the statements on them. -/

namespace Sys2Proof.Machine

/-! ## Seeding and `ILLEGAL` -/

/-- Settles O6: the named operations of `SEED` written out. -/
theorem seedCompletes : Obligations.SeedCompletes := fun _ _ => rfl

/-- Settles O10: `Init`, `Twist` and the response leave FAULT, the levels and the draw counter. -/
theorem seedingFrame : Obligations.SeedingFrame := by
  rintro i s t (rfl | ⟨v, rfl⟩) h
  · obtain rfl := Host.Outcome.next.inj ((exec_seedDefault s).symm.trans h)
    exact ⟨rfl, rfl, rfl⟩
  · obtain rfl := Host.Outcome.next.inj ((exec_seed v s).symm.trans h)
    exact ⟨rfl, rfl, rfl⟩

/-- Settles O9: `Init` overwrites the array of the other state, and its own of the first `SEED v`. -/
theorem seedForgetsTheOldState : Obligations.SeedForgetsTheOldState := by
  intro v s r
  have hother := initWords_ignores_array v r.mt s.mt
  have hown := initWords_ignores_array v (twistWords (initWords v s.mt)) s.mt
  refine ⟨_, _, _, exec_seed v s, exec_seed v r, exec_seed v _, ?_⟩
  simp [hother, hown]

theorem faultOob_raiseIn_ill (f : FaultReg) : faultOob (raiseIn .ill f) = faultOob f := by
  simp [faultOob, raiseIn, causeCode]

/-- Settles O30: raising ILL and responding leave all of this. -/
theorem illegalFrame : Obligations.IllegalFrame := by
  intro s t h
  obtain rfl := Host.Outcome.next.inj ((exec_illegal s).symm.trans h)
  exact ⟨fun _ _ => rfl, rfl, rfl, rfl, faultOob_raiseIn_ill s.fault⟩

/-! ## `NEXT` -/

/-- Settles O24: the two branches of the read. -/
theorem idx624ReadIsAParameter : Obligations.Idx624ReadIsAParameter :=
  ⟨rfl, fun _ => rfl, fun _ _ => rfl⟩

/-- An exhausted `NEXT` twists and answers the tempered word 1 (42 R95). -/
theorem exec_next_exhausted {s : State} (h : 624 ≤ s.cur.toNat) :
    exec .next s = .next
      (s.twist.incrementCursor.respond (temper (wordAt (twistWords s.mt) 1)) false) := by
  have hread : s.twist.incrementCursor.cur.toNat < 624 := by simp
  rw [exec_next, s.refresh_exhausted h, State.read_inRange _ hread, wordAt_eq _ 1 (by decide)]
  rfl

/-- The three cases of `NEXT`, and the state each leads to. -/
theorem exec_next_cases {s t : State} (h : exec .next s = .next t) :
    (s.cur.toNat < 623 ∧
      t = s.incrementCursor.respond (temper (wordAt s.mt (s.cur.toNat + 1))) false) ∨
    (s.cur.toNat = 623 ∧ t = (s.incrementCursor.raise .oob).afterDraw.respond s.drawn true) ∨
    (624 ≤ s.cur.toNat ∧
      t = s.twist.incrementCursor.respond (temper (wordAt (twistWords s.mt) 1)) false) := by
  obtain hlt | hlast | hex : s.cur.toNat < 623 ∨ s.cur.toNat = 623 ∨ 624 ≤ s.cur.toNat := by omega
  · exact .inl ⟨hlt, Host.Outcome.next.inj (h.symm.trans (exec_next_below_623 hlt))⟩
  · exact .inr (.inl ⟨hlast, Host.Outcome.next.inj (h.symm.trans (exec_next_at_623 hlast))⟩)
  · exact .inr (.inr ⟨hex, Host.Outcome.next.inj (h.symm.trans (exec_next_exhausted hex))⟩)

/-- The increment that takes the cursor to index 624. -/
theorem State.incrementCursor_cur_at_623 {s : State} (h : s.cur.toNat = 623) :
    s.incrementCursor.cur = 624#10 :=
  BitVec.eq_of_toNat_eq (by rw [State.incrementCursor_cur, cursor_add_one _ (by omega), h]; rfl)

/-- Settles O18, case by case. -/
theorem nextCompletes : Obligations.NextCompletes := by
  intro s
  obtain ⟨hlt, ht⟩ | ⟨hlast, ht⟩ | ⟨hex, ht⟩ := exec_next_cases (exec_next_eq_afterNext s)
  · rw [exec_next_eq_afterNext, ht, dif_pos hlt, wordAt_eq _ _ (by omega)]
    rfl
  · rw [exec_next_eq_afterNext, ht, dif_neg (by omega), if_pos hlast,
      ← State.incrementCursor_cur_at_623 hlast]
    rfl
  · rw [exec_next_eq_afterNext, ht, dif_neg (by omega), if_neg (by omega), wordAt_eq _ 1 (by decide)]
    rfl

/-- Settles O20: below 623 nothing of this changes, at 623 OOB is raised and a value drawn, and an
exhausted `NEXT` changes the array alone. -/
theorem nextFrame : Obligations.NextFrame := by
  intro s t h
  obtain ⟨hlt, rfl⟩ | ⟨hlast, rfl⟩ | ⟨hex, rfl⟩ := exec_next_cases h
  · exact ⟨rfl, rfl, by simp [Nat.ne_of_lt hlt], fun _ _ _ => rfl, fun _ => rfl⟩
  · exact ⟨rfl, faultIll_raiseIn_oob s.fault, by simp [hlast, faultOob_raiseIn_oob],
      fun _ _ _ => rfl, fun hne => absurd hlast hne⟩
  · have hne : s.cur.toNat ≠ 623 := by omega
    exact ⟨rfl, rfl, by simp [hne], fun hlt => absurd hex (by omega), fun _ => rfl⟩

/-- Settles O21: below 623 the index read is at least 1; at 623 nothing of the array is read. -/
theorem nextNeverReadsWordZero : Obligations.NextNeverReadsWordZero := by
  refine ⟨fun s t w hlt h => ?_, fun s w hlast => ?_⟩
  · obtain rfl := Host.Outcome.next.inj ((exec_next_below_623 hlt).symm.trans h)
    refine (exec_next_below_623 (s := { s with mt := s.mt.set 0 w }) hlt).trans ?_
    rw [wordAt_set_zero_of_pos _ _ (by omega)]
    rfl
  · exact ⟨_, _, exec_next_at_623 hlast,
      exec_next_at_623 (s := { s with mt := s.mt.set 0 w }) hlast, rfl, rfl, rfl, rfl, rfl⟩

end Sys2Proof.Machine
end

section
/-! SUPPORT. What every step does to each part of the state, and what it keeps (10_state.md §2, §3, §8;
30_encoding.md R63–R67; 60_exceptions.md R108, R118), and the statements on it. -/

namespace Sys2Proof.Machine

/-! ## The ports -/

theorem State.cmdReady_iff (s : State) : s.cmdReady = true ↔ s.busyWith = none ∧ s.slot = none := by
  simp [State.cmdReady, State.busy, State.rspValid]

/-- An engine that is ready accepts what is presented, and is idle otherwise. -/
theorem State.move_of_cmdReady {s : State} (hready : s.cmdReady = true) (hrst : s.ports.rst = false) :
    s.move = if s.ports.cmdValid then .accept s.ports.word else .idle := by
  obtain ⟨hbusy, hslot⟩ := s.cmdReady_iff.mp hready
  simp [State.move, State.rspValid, hrst, hslot, hbusy, hready]

theorem step_of_accept {s : State} {w : CommandWord} (hmove : s.move = .accept w) :
    step s = .next (s.advance.accept w) := by
  rw [step, hmove]

/-- Settles O37: it is the move of a busy engine with an empty slot. -/
theorem stepRunsTheDecodedCommand : Obligations.StepRunsTheDecodedCommand := fun _ _ => step_of_busy

/-- Settles O38, port by port. -/
theorem portValues : Obligations.PortValues := by
  refine ⟨fun s => ⟨rfl, rfl, fun r hr => ?_, rfl⟩, fun _ _ => rfl, fun _ _ _ => rfl⟩
  simp [State.portsOut, hr]

/-- Settles O42: a ready engine with nothing presented makes the idle move. -/
theorem idleEngineHoldsState : Obligations.IdleEngineHoldsState := by
  intro s hbusy hslot hrst hvalid
  have hready : s.cmdReady = true := s.cmdReady_iff.mpr ⟨hbusy, hslot⟩
  have hmove : s.move = .idle := by simp [State.move_of_cmdReady hready hrst, hvalid]
  exact ⟨hready, by rw [step, hmove]; rfl⟩

/-- Settles O39: the move at a handshake, and the only move after which a command newly is in progress. -/
theorem acceptanceAtTheHandshake : Obligations.AcceptanceAtTheHandshake := by
  refine fun s hrst => ⟨fun hvalid hready => ?_, fun t w hstep hw hnone => ?_⟩
  · have hmove : s.move = .accept s.ports.word := by
      simp [State.move_of_cmdReady hready hrst, hvalid]
    exact step_of_accept hmove
  · obtain ⟨hreset, -, -⟩ | ⟨-, -, -, -, rfl⟩ | ⟨x, -, -, hx, -, -⟩ |
      ⟨-, hslot, -, hvalid, -, rfl⟩ | ⟨-, -, rfl⟩ := step_cases hstep
    · simp [hrst] at hreset
    · simp [hnone] at hw
    · simp [hnone] at hx
    · refine ⟨hvalid, s.cmdReady_iff.mpr ⟨hnone, by simpa [State.rspValid] using hslot⟩, ?_⟩
      exact (Option.some.inj hw).symm
    · simp [hnone] at hw

/-! ## The host's levels and the command in progress -/

theorem exec_inputs {i : Instr} {s t : State} (h : exec i s = .next t) : t.inputs = s.inputs := by
  cases i with
  | next => exact (nextFrame s t h).1
  | seed v => exact (seedingFrame _ s t (.inr ⟨v, rfl⟩) h).2.1
  | seedDefault => exact (seedingFrame _ s t (.inl rfl) h).2.1
  | illegal => obtain ⟨-, -, hinputs, -⟩ := illegalFrame s t h; exact hinputs

/-- Every step uses up one entry of the host's levels. -/
theorem step_inputs {s t : State} (h : step s = .next t) : t.inputs = s.inputs.tail := by
  obtain ⟨-, -, rfl⟩ | ⟨-, -, -, -, rfl⟩ | ⟨w, -, -, -, -, hrun⟩ | ⟨-, -, -, -, -, rfl⟩ |
    ⟨-, -, rfl⟩ := step_cases h
  · simp
  · simp
  · exact exec_inputs hrun
  · simp
  · simp

/-- A command ends `busy`, with its response. -/
theorem exec_busyWith {i : Instr} {s t : State} (h : exec i s = .next t) : t.busyWith = none := by
  obtain ⟨u, r, hu, -, hbusy, -⟩ := everyCommandAnswers i s
  obtain rfl : u = t := Host.Outcome.next.inj (hu.symm.trans h)
  simpa [State.busy] using hbusy

/-! ## FAULT (R108) -/

theorem exec_keeps_fault {i : Instr} {s t : State} (h : exec i s = .next t) :
    s.fault &&& t.fault = s.fault := by
  obtain ⟨-, hfault⟩ | ⟨-, -, hfault⟩ | ⟨-, -, hfault⟩ := exec_fault_cases h
  · rw [hfault, raiseIn_sticky]
  · rw [hfault, raiseIn_sticky]
  · rw [hfault, BitVec.and_self]

/-- Without reset no step clears a FAULT bit. -/
theorem step_keeps_fault {s t : State} (hrst : s.ports.rst = false) (h : step s = .next t) :
    s.fault &&& t.fault = s.fault := by
  obtain ⟨hreset, -, -⟩ | ⟨-, -, -, -, rfl⟩ | ⟨w, -, -, -, -, hrun⟩ | ⟨-, -, -, -, -, rfl⟩ |
    ⟨-, -, rfl⟩ := step_cases h
  · simp [hrst] at hreset
  · simp
  · exact exec_keeps_fault (s := s.advance) hrun
  · simp
  · simp

/-- Settles O29: every step answers, and without reset keeps the bits. -/
theorem faultBitsAreSticky : Obligations.FaultBitsAreSticky := by
  intro s hrst
  obtain ⟨t, ht⟩ := step_answers s
  exact ⟨t, ht, step_keeps_fault hrst ht⟩

/-- A register with a bit set has one set in every register that keeps its bits. -/
theorem fault_ne_zero_of_and_eq {f g : FaultReg} (h : f &&& g = f) (hf : f ≠ 0b00#2) : g ≠ 0b00#2 := by
  rintro rfl
  exact hf (h.symm.trans BitVec.and_zero)

/-! ## The invariant -/

/-- A command that answers with the error bit leaves its cause recorded (R106). -/
theorem exec_err_faulted {i : Instr} {s t : State} (h : exec i s = .next t)
    (herr : (t.slot.map Response.err).getD false = true) : t.fault ≠ 0b00#2 := by
  cases i with
  | next =>
    obtain ⟨-, rfl⟩ | ⟨-, rfl⟩ | ⟨-, rfl⟩ := exec_next_cases h
    · simp at herr
    · exact raiseIn_ne_zero .oob s.fault
    · simp at herr
  | seed v =>
    obtain rfl := Host.Outcome.next.inj ((exec_seed v s).symm.trans h)
    simp at herr
  | seedDefault =>
    obtain rfl := Host.Outcome.next.inj ((exec_seedDefault s).symm.trans h)
    simp at herr
  | illegal =>
    obtain rfl := Host.Outcome.next.inj ((exec_illegal s).symm.trans h)
    exact raiseIn_ne_zero .ill s.fault

/-- Every step keeps busy and a full slot from holding together (30_encoding.md R65). -/
theorem step_keeps_one_outstanding {s t : State} (hs : (s.busy && s.rspValid) = false)
    (h : step s = .next t) : (t.busy && t.rspValid) = false := by
  obtain ⟨-, -, rfl⟩ | ⟨-, -, -, -, rfl⟩ | ⟨w, -, -, -, -, hrun⟩ | ⟨-, hslot, -, -, -, rfl⟩ |
    ⟨-, -, rfl⟩ := step_cases h
  · simp [State.busy]
  · simp [State.rspValid]
  · simp [State.busy, exec_busyWith hrun]
  · have ht : (s.advance.accept s.ports.word).rspValid = false := hslot
    simp [ht]
  · exact hs

/-- Every step keeps an error response from waiting without its cause recorded. -/
theorem step_keeps_cause {s t : State}
    (hs : (s.slot.map Response.err).getD false = true → s.fault ≠ 0b00#2) (h : step s = .next t) :
    (t.slot.map Response.err).getD false = true → t.fault ≠ 0b00#2 := by
  obtain ⟨-, -, rfl⟩ | ⟨-, -, -, -, rfl⟩ | ⟨w, -, -, -, -, hrun⟩ | ⟨-, -, -, -, -, rfl⟩ |
    ⟨-, -, rfl⟩ := step_cases h
  · simp
  · simp
  · exact exec_err_faulted hrun
  · exact hs
  · exact hs

/-- Settles O47, conjunct by conjunct. -/
theorem stepKeepsInvariant : Obligations.StepKeepsInvariant := by
  rintro s t ⟨hcur, hone, hcause⟩ h
  exact ⟨step_keeps_cur_le hcur h, step_keeps_one_outstanding hone h, step_keeps_cause hcause h⟩

/-- Settles O48: cursor 0, no command in progress, an empty slot. -/
theorem resetHasInvariant : Obligations.ResetHasInvariant := fun _ _ => ⟨Nat.zero_le _, rfl, nofun⟩

/-! ## The array -/

/-- A command leaves the array, twists it, or seeds it. -/
theorem exec_mt_cases {i : Instr} {s t : State} (h : exec i s = .next t) :
    t.mt = s.mt ∨ t.mt = twistWords s.mt ∨ ∃ v, t.mt = twistWords (initWords v s.mt) := by
  cases i with
  | next =>
    obtain ⟨-, rfl⟩ | ⟨-, rfl⟩ | ⟨-, rfl⟩ := exec_next_cases h
    · exact .inl rfl
    · exact .inl rfl
    · exact .inr (.inl rfl)
  | seed v =>
    obtain rfl := Host.Outcome.next.inj ((exec_seed v s).symm.trans h)
    exact .inr (.inr ⟨v, rfl⟩)
  | seedDefault =>
    obtain rfl := Host.Outcome.next.inj ((exec_seedDefault s).symm.trans h)
    exact .inr (.inr ⟨defaultSeed, rfl⟩)
  | illegal =>
    obtain rfl := Host.Outcome.next.inj ((exec_illegal s).symm.trans h)
    exact .inl rfl

/-- `Init` overwrites every word, so a seeding of any array is one of the array of zeros. -/
theorem State.arraySeeded_of_seeding {t : State} {v : Word} {a : StateArray}
    (h : t.mt = twistWords (initWords v a)) : t.ArraySeeded :=
  ⟨v, 0, h.trans (congrArg twistWords (initWords_ignores_array v a _))⟩

theorem State.arraySeeded_of_twist {s t : State} (hs : s.ArraySeeded) (h : t.mt = twistWords s.mt) :
    t.ArraySeeded := by
  obtain ⟨v, n, hmt⟩ := hs
  exact ⟨v, n + 1, by rw [h, hmt, Function.iterate_succ_apply' twistWords (n + 1)]⟩

theorem State.arraySeeded_of_mt_eq {s t : State} (hs : s.ArraySeeded) (h : t.mt = s.mt) :
    t.ArraySeeded := by
  obtain ⟨v, n, hmt⟩ := hs
  exact ⟨v, n, h.trans hmt⟩

/-- Settles O50: a step leaves the array, twists it once more, or seeds it anew. -/
theorem stepKeepsArraySeeded : Obligations.StepKeepsArraySeeded := by
  intro s t hs h
  obtain ⟨-, -, rfl⟩ | ⟨-, -, -, -, rfl⟩ | ⟨w, -, -, -, -, hrun⟩ | ⟨-, -, -, -, -, rfl⟩ |
    ⟨-, -, rfl⟩ := step_cases h
  · exact State.arraySeeded_of_seeding s.advance.applyReset_mt
  · exact State.arraySeeded_of_mt_eq hs rfl
  · obtain hmt | hmt | ⟨v, hmt⟩ := exec_mt_cases hrun
    · exact State.arraySeeded_of_mt_eq hs hmt
    · exact State.arraySeeded_of_twist hs hmt
    · exact State.arraySeeded_of_seeding hmt
  · exact State.arraySeeded_of_mt_eq hs rfl
  · exact State.arraySeeded_of_mt_eq hs rfl

/-- Settles O51: the reset state is written as one twist of `Init`. -/
theorem resetArraySeeded : Obligations.ResetArraySeeded := fun _ _ => ⟨defaultSeed, 0, rfl⟩

/-- Settles O52, move by move, and for a run command by command: `ILLEGAL` and the handshake leave
both, and `NEXT` the array unless exhausted. -/
theorem writersOfArrayAndCursor : Obligations.WritersOfArrayAndCursor := by
  intro s t h hchanged
  obtain ⟨-, hmove, -⟩ | ⟨-, -, -, -, rfl⟩ | ⟨w, -, -, -, hmove, hrun⟩ | ⟨-, -, -, -, -, rfl⟩ |
    ⟨-, -, rfl⟩ := step_cases h
  · exact .inl hmove
  · simp at hchanged
  · refine .inr ⟨w, hmove, ?_⟩
    cases hw : decode w with
    | next =>
      refine .inr (.inr ⟨rfl, fun hmt => ?_⟩)
      rw [hw] at hrun
      obtain rfl := Host.Outcome.next.inj ((exec_next_eq_afterNext s.advance).symm.trans hrun)
      by_contra hready
      exact hmt (s.advance.afterNext_mt.trans (if_neg hready))
    | seed v => exact .inl ⟨v, rfl⟩
    | seedDefault => exact .inr (.inl rfl)
    | illegal =>
      rw [hw] at hrun
      obtain rfl := Host.Outcome.next.inj ((exec_illegal s.advance).symm.trans hrun)
      simp at hchanged
  · simp at hchanged
  · simp at hchanged

end Sys2Proof.Machine
end

section
/-! SUPPORT. What holds along a run (30_encoding.md R63; 60_exceptions.md R108, R109; 70_reset_and_hazards.md
R125, R133, R134), and the statements on it. -/

namespace Sys2Proof.Machine

/-! ## FAULT along a run (R109) -/

/-- The FAULT bits the command `i` raises when it runs at cursor `c` (60_exceptions.md R104). -/
def raisedBy (i : Instr) (c : Cursor) : FaultReg :=
  if i = .illegal then causeCode .ill
  else if i = .next ∧ c.toNat = 623 then causeCode .oob else 0b00#2

/-- The FAULT bits this step raises: FAULT itself does not enter. -/
def State.raised (s : State) : FaultReg :=
  match s.move with
  | .run w => raisedBy (decode w) s.cur
  | _ => 0b00#2

theorem exec_fault_eq {i : Instr} {s t : State} (h : exec i s = .next t) :
    t.fault = s.fault ||| raisedBy i s.cur := by
  obtain ⟨-, -, hexec, -⟩ := faultCauses
  exact hexec i s t h

theorem step_fault_eq {s t : State} (hrst : s.ports.rst = false) (h : step s = .next t) :
    t.fault = s.fault ||| s.raised := by
  obtain ⟨hreset, -, -⟩ | ⟨-, -, -, hmove, rfl⟩ | ⟨w, -, -, -, hmove, hrun⟩ |
    ⟨-, -, -, -, hmove, rfl⟩ | ⟨-, hmove, rfl⟩ := step_cases h
  · simp [hrst] at hreset
  · simp [State.raised, hmove]
  · rw [State.raised, hmove]; exact exec_fault_eq (s := s.advance) hrun
  · simp [State.raised, hmove]
  · simp [State.raised, hmove]

/-- From a clear register exactly the raised bits are set. -/
theorem State.setsFault_iff {s : State} (hrst : s.ports.rst = false) :
    s.setsFault = true ↔ s.raised ≠ 0b00#2 := by
  obtain ⟨u, hu⟩ := step_answers { s with fault := 0b00#2 }
  have hfault : u.fault = 0b00#2 ||| s.raised :=
    step_fault_eq (s := { s with fault := 0b00#2 }) hrst hu
  have hsets : s.setsFault = (u.fault != 0b00#2) := by rw [State.setsFault, hu]
  rw [hsets, hfault, BitVec.zero_or, bne_iff_ne]

theorem step_faulted_iff {s t : State} (hrst : s.ports.rst = false) (h : step s = .next t) :
    t.faulted ↔ s.faulted ∨ s.setsFault = true := by
  rw [State.setsFault_iff hrst, State.faulted, State.faulted, step_fault_eq hrst h, Ne,
    BitVec.or_eq_zero_iff, not_and_or]

theorem noFaultSet_succ {s t : State} (k : Nat) (h : step s = .next t) :
    noFaultSet (k + 1) s = (!s.setsFault && noFaultSet k t) := by
  rw [noFaultSet, h]

/-- Settles O57, by induction on the number of steps. -/
theorem cleanRunSetsNoFault : Obligations.CleanRunSetsNoFault := by
  intro k
  induction k with
  | zero =>
    intro s r h
    obtain rfl := Option.some.inj h
    simp [noFaultSet]
  | succ k ih =>
    intro s r h
    obtain ⟨t, q, hrst, hstep, hq, rfl⟩ := observe_cases h
    rw [Run.after_final, ih t q hq, step_faulted_iff hrst hstep, noFaultSet_succ k hstep]
    simp [and_assoc]

/-- Only a response in the slot is delivered. -/
theorem State.slot_of_mem_delivered {s : State} {q : Response} (h : q ∈ s.delivered) :
    s.slot = some q := by
  rw [State.delivered] at h
  split at h
  · simpa using h
  · simp at h

/-- Settles O46, by induction on the number of steps: an error response in the slot has its FAULT bit
set, and a run that ends clean began clean. -/
theorem cleanRunDeliversNoError : Obligations.CleanRunDeliversNoError := by
  intro k
  induction k with
  | zero =>
    intro s r _ h _
    obtain rfl := Option.some.inj h
    simp
  | succ k ih =>
    intro s r hinv h hclean p hp
    have hbegin : ¬ s.faulted := ((cleanRunSetsNoFault (k + 1) s r h).mp hclean).1
    obtain ⟨t, q, -, hstep, hq, rfl⟩ := observe_cases h
    rw [Run.after_responses, List.mem_append] at hp
    obtain hp | hp := hp
    · obtain ⟨-, -, hcause⟩ := hinv
      rw [State.slot_of_mem_delivered hp] at hcause
      by_contra herr
      exact hbegin (hcause (by simpa using herr))
    · exact ih t q (stepKeepsInvariant s t hinv hstep) hq hclean p hp

/-! ## Reset and runs -/

/-- Reset leaves the launch state, whatever the state before it (R121). -/
theorem State.applyReset_eq_launch (s : State) : s.applyReset = launch s.inputs s.draws := by
  have hmt : s.applyReset =
      { State.reset with
        mt := twistWords (initWords defaultSeed s.mt), inputs := s.inputs, draws := s.draws } := rfl
  rw [hmt, ← State.reset_mt s.mt]
  rfl

/-- Settles O58: the step applies reset; and a run's steps, one by one, have reset low. -/
theorem resetLaunchesARun : Obligations.ResetLaunchesARun := by
  refine ⟨fun s hrst => ⟨?_, fun k => observe_reset k hrst⟩, fun k => ?_⟩
  · rw [step, s.move_of_rst hrst]
    exact congrArg _ s.advance.applyReset_eq_launch
  · induction k with
    | zero => simp
    | succ k ih =>
      intro s r h p hp
      obtain ⟨t, q, hrst, hstep, hq, -⟩ := observe_cases h
      rw [State.ports] at hrst
      cases hin : s.inputs with
      | nil => simp [hin] at hp
      | cons p' ps =>
        rw [hin, List.take_succ_cons, List.mem_cons] at hp
        obtain rfl | hp := hp
        · simpa [hin] using hrst
        · exact ih t q hq p (by rw [step_inputs hstep, hin]; exact hp)

/-! ## A held command -/

/-- How many steps a host that takes responses waits until the engine is ready: one for a waiting
response, two for a command in progress. -/
def State.stepsToReady (s : State) : Nat := s.rspValid.toNat + 2 * s.busy.toNat

theorem State.stepsToReady_eq_zero_iff (s : State) : s.stepsToReady = 0 ↔ s.cmdReady = true := by
  simp [State.stepsToReady, State.cmdReady, and_comm]

/-- While the engine is not ready and responses are taken, each step takes the response or runs the
command, and brings it nearer to ready. -/
theorem step_stepsToReady_lt {s t : State} (hrst : s.ports.rst = false)
    (htake : s.ports.rspReady = true) (hnot : ¬ s.cmdReady = true) (h : step s = .next t) :
    t.stepsToReady < s.stepsToReady := by
  cases hslot : s.slot with
  | some q =>
    have hmove : s.move = .take := by simp [State.move_of_slot hslot hrst, htake]
    rw [step, hmove] at h
    obtain rfl := Host.Outcome.next.inj h
    simp [State.stepsToReady, State.rspValid, State.busy, hslot]
  | none =>
    cases hbusy : s.busyWith with
    | some w =>
      rw [step_of_busy hbusy hslot hrst] at h
      simp [State.stepsToReady, State.busy, exec_busyWith h, exec_rspValid h, hbusy]
    | none => exact absurd (s.cmdReady_iff.mpr ⟨hbusy, hslot⟩) hnot

/-- A word held for one step more than the engine needs to get ready is accepted. -/
theorem held_word_accepted {p : PortsIn} (hrst : p.rst = false) (hvalid : p.cmdValid = true)
    (htake : p.rspReady = true) (n : Nat) (s : State) (rest : List PortsIn)
    (hn : s.stepsToReady ≤ n) (hin : s.inputs = List.replicate (n + 1) p ++ rest) :
    ∃ (k : Nat) (r : Run), k ≤ n ∧ observe k s = some r ∧ r.final.move = .accept p.word := by
  induction n generalizing s with
  | zero =>
    have hports : s.ports = p := by simp [State.ports, hin]
    have hready : s.cmdReady = true := s.stepsToReady_eq_zero_iff.mp (Nat.le_zero.mp hn)
    refine ⟨0, _, le_rfl, rfl, ?_⟩
    simp [State.move_of_cmdReady hready (hports ▸ hrst), hports, hvalid]
  | succ n ih =>
    have hports : s.ports = p := by simp [State.ports, hin, List.replicate_succ]
    by_cases hready : s.cmdReady = true
    · refine ⟨0, _, Nat.zero_le _, rfl, ?_⟩
      simp [State.move_of_cmdReady hready (hports ▸ hrst), hports, hvalid]
    · obtain ⟨t, ht⟩ := step_answers s
      have hlt := step_stepsToReady_lt (hports ▸ hrst) (hports ▸ htake) hready ht
      obtain ⟨k, r, hk, hr, hmove⟩ := ih t (by omega)
        (by rw [step_inputs ht, hin, List.replicate_succ]; rfl)
      exact ⟨k + 1, r.after s, by omega, by rw [observe_succ k (hports ▸ hrst) ht, hr]; rfl, hmove⟩

/-- Settles O44: at most three steps are needed, for a response and a command. -/
theorem heldCommandIsAccepted : Obligations.HeldCommandIsAccepted := by
  intro s p rest hrst hvalid htake hin
  have hthree : s.stepsToReady ≤ 3 := by
    have := s.rspValid.toNat_le
    have := s.busy.toNat_le
    rw [State.stepsToReady]
    omega
  obtain ⟨k, r, hk, hr, hmove⟩ := held_word_accepted hrst hvalid htake 3 s rest hthree hin
  exact ⟨k, r, by omega, hr, hmove⟩

end Sys2Proof.Machine
end

section
/-! SUPPORT. The host's duty, and a host that issues words one at a time (30_encoding.md R63, R66, R67;
70_reset_and_hazards.md R125, R132), and the statements on them. -/

namespace Sys2Proof.Machine

/-! ## What a command depends on (R67) -/

/-- States that agree in all that a command reads: the array, the cursor, FAULT and the draw counter. -/
structure State.SameCore (s r : State) : Prop where
  mt : s.mt = r.mt
  cur : s.cur = r.cur
  fault : s.fault = r.fault
  draws : s.draws = r.draws

/-- A command leads states that agree so to the same state, but for the host's levels, which it leaves. -/
theorem exec_of_sameCore {i : Instr} {s r t : State} (ht : exec i s = .next t) (h : s.SameCore r) :
    exec i r = .next { t with inputs := r.inputs } := by
  obtain ⟨mt, cur, fault, _, _, _, draws⟩ := s
  obtain ⟨_, _, _, _, _, ins, _⟩ := r
  obtain ⟨rfl, rfl, rfl, rfl⟩ := h
  cases i with
  | next =>
    rw [nextCompletes] at ht ⊢
    obtain rfl := Host.Outcome.next.inj ht
    congr 1
    split_ifs <;> rfl
  | seed v =>
    obtain rfl := Host.Outcome.next.inj ((exec_seed v _).symm.trans ht)
    rfl
  | seedDefault =>
    obtain rfl := Host.Outcome.next.inj ((exec_seedDefault _).symm.trans ht)
    rfl
  | illegal =>
    obtain rfl := Host.Outcome.next.inj ((exec_illegal _).symm.trans ht)
    rfl

/-! ## Three steps a word -/

section Script

variable {s t : State} {w : CommandWord} (ins : List PortsIn)

/-- The levels with which a host issues `w` and takes its response. -/
def issueLevels (w : CommandWord) (ins : List PortsIn) : List PortsIn :=
  .present w :: .quiet :: .take :: ins

theorem hostScript_cons (w : CommandWord) (ws : List CommandWord) :
    hostScript (w :: ws) = issueLevels w (hostScript ws) := rfl

theorem present_word (w : CommandWord) : (PortsIn.present w).word = w :=
  commandWord_opField_dataField w

theorem move_presented (hready : s.cmdReady = true) :
    ({ s with inputs := issueLevels w ins } : State).move = .accept w := by
  have hmove := State.move_of_cmdReady (s := { s with inputs := issueLevels w ins }) hready rfl
  exact hmove.trans (congrArg Move.accept (present_word w))

theorem step_presented (hready : s.cmdReady = true) :
    step { s with inputs := issueLevels w ins } =
      .next { s with busyWith := some w, inputs := .quiet :: .take :: ins } :=
  step_of_accept (move_presented ins hready)

theorem move_waiting (hready : s.cmdReady = true) :
    ({ s with busyWith := some w, inputs := .quiet :: .take :: ins } : State).move = .run w := by
  obtain ⟨-, hslot⟩ := s.cmdReady_iff.mp hready
  simp [State.move, State.ports, PortsIn.quiet, State.rspValid, hslot]

theorem step_waiting (hready : s.cmdReady = true) (ht : exec (decode w) s = .next t) :
    step { s with busyWith := some w, inputs := .quiet :: .take :: ins } =
      .next { t with inputs := .take :: ins } := by
  rw [step, move_waiting ins hready]
  exact exec_of_sameCore ht ⟨rfl, rfl, rfl, rfl⟩

theorem move_answered (ht : exec (decode w) s = .next t) :
    ({ t with inputs := .take :: ins } : State).move = .take := by
  have hvalid := exec_rspValid ht
  rw [State.rspValid] at hvalid
  simp [State.move, State.ports, PortsIn.take, State.rspValid, hvalid]

theorem step_answered (ht : exec (decode w) s = .next t) :
    step { t with inputs := .take :: ins } = .next { t.takeResponse with inputs := ins } := by
  rw [step, move_answered ins ht]
  rfl

/-- The engine is ready again once the response is taken. -/
theorem cmdReady_takeResponse {i : Instr} (ht : exec i s = .next t) : t.takeResponse.cmdReady = true :=
  t.takeResponse.cmdReady_iff.mpr ⟨exec_busyWith (t := t) ht, rfl⟩

/-- The run of the three steps: the word accepted, its response taken, and the state its command leads to. -/
theorem observe_issue (k : Nat) (hready : s.cmdReady = true) (ht : exec (decode w) s = .next t) :
    observe (k + 3) { s with inputs := issueLevels w ins } =
      (observe k { t.takeResponse with inputs := ins }).map
        (fun r => ⟨w :: r.commands, t.slot.toList ++ r.responses, r.final⟩) := by
  rw [observe_succ (k + 2) rfl (step_presented ins hready),
    observe_succ (k + 1) rfl (step_waiting ins hready ht),
    observe_succ k rfl (step_answered ins ht), Option.map_map, Option.map_map]
  congr 1
  funext r
  simp [Run.after, State.accepted, State.delivered, move_presented ins hready,
    move_waiting ins hready, move_answered ins ht]

theorem hostKeepsDuty_succ (k : Nat) (h : step s = .next t) :
    hostKeepsDuty (k + 1) s = (s.holdsCommand && hostKeepsDuty k t) := by
  rw [hostKeepsDuty, h]

theorem holdsCommand_presented (hready : s.cmdReady = true) :
    ({ s with inputs := issueLevels w ins } : State).holdsCommand = true := by
  have hword : ({ s with inputs := issueLevels w ins } : State).ports.word = w := present_word w
  simp [State.holdsCommand, move_presented ins hready, hword]

/-- In the three steps a word is presented once, and accepted there. -/
theorem hostKeepsDuty_issue (k : Nat) (hready : s.cmdReady = true)
    (ht : exec (decode w) s = .next t) :
    hostKeepsDuty (k + 3) { s with inputs := issueLevels w ins } =
      hostKeepsDuty k { t.takeResponse with inputs := ins } := by
  rw [hostKeepsDuty_succ (k + 2) (step_presented ins hready),
    hostKeepsDuty_succ (k + 1) (step_waiting ins hready ht),
    hostKeepsDuty_succ k (step_answered ins ht), holdsCommand_presented ins hready]
  rfl

end Script

/-- A host that issues words one at a time keeps its duty, by induction on the words. -/
theorem hostKeepsDuty_hostScript (ws : List CommandWord) (s : State) (hready : s.cmdReady = true) :
    hostKeepsDuty (3 * ws.length) { s with inputs := hostScript ws } = true := by
  induction ws generalizing s with
  | nil => rfl
  | cons w ws ih =>
    obtain ⟨t, -, ht, -⟩ := everyCommandAnswers (decode w) s
    rw [hostScript_cons]
    exact (hostKeepsDuty_issue (hostScript ws) (3 * ws.length) hready ht).trans
      (ih t.takeResponse (cmdReady_takeResponse ht))

/-- Settles O56, by induction on the words: three steps run one command. -/
theorem portsRefineTransactions : Obligations.PortsRefineTransactions := by
  intro ws
  induction ws with
  | nil =>
    rintro ⟨mt, cur, fault, busyWith, slot, inputs, draws⟩ - hin
    obtain rfl : inputs = [] := hin
    rfl
  | cons w ws ih =>
    intro s hready hin
    obtain ⟨t, -, ht, -⟩ := everyCommandAnswers (decode w) s
    have hrest := ih t.takeResponse (cmdReady_takeResponse ht) ((exec_inputs ht).trans hin)
    rw [hostScript_cons]
    refine (observe_issue (hostScript ws) (3 * ws.length) hready ht).trans ?_
    rw [hrest, List.map_cons, transact_cons _ ht, Option.map_map, Option.map_map]
    rfl

/-! ## The host's duty -/

/-- What a step accepts is the word at the ports. -/
theorem State.accepted_cases (s : State) :
    (s.move = .accept s.ports.word ∧ s.accepted = [s.ports.word]) ∨
    (s.move ≠ .accept s.ports.word ∧ s.accepted = []) := by
  obtain ⟨t, ht⟩ := step_answers s
  obtain ⟨-, hmove, -⟩ | ⟨-, -, -, hmove, -⟩ | ⟨w, -, -, -, hmove, -⟩ | ⟨-, -, -, -, hmove, -⟩ |
    ⟨-, hmove, -⟩ := step_cases ht <;> simp [State.accepted, hmove]

theorem step_ports {s t : State} (h : step s = .next t) : t.ports = s.advance.ports := by
  rw [State.ports, State.ports, step_inputs h, State.advance_inputs]

/-- While a presented word is not accepted, a host that keeps its duty presents it at the next step. -/
theorem State.advance_ports_of_holdsCommand {s : State} (hholds : s.holdsCommand = true)
    (hvalid : s.ports.cmdValid = true) (hmove : s.move ≠ .accept s.ports.word) :
    s.advance.ports.cmdValid = true ∧ s.advance.ports.word = s.ports.word := by
  simpa [State.holdsCommand, hvalid, hmove] using hholds

/-- By induction on the number of steps: the first of them accepts the word, or the host presents it still. -/
theorem presented_word_kept (k : Nat) (s : State) (r : Run) (hvalid : s.ports.cmdValid = true)
    (hduty : hostKeepsDuty k s = true) (hrun : observe k s = some r) :
    (r.commands = [] → r.final.ports.cmdValid = true ∧ r.final.ports.word = s.ports.word) ∧
    (∀ w, r.commands.head? = some w → w = s.ports.word) := by
  induction k generalizing s r with
  | zero =>
    obtain rfl := Option.some.inj hrun
    exact ⟨fun _ => ⟨hvalid, rfl⟩, nofun⟩
  | succ k ih =>
    obtain ⟨t, q, -, hstep, hq, rfl⟩ := observe_cases hrun
    rw [hostKeepsDuty_succ k hstep, Bool.and_eq_true] at hduty
    obtain ⟨hholds, hrest⟩ := hduty
    obtain ⟨-, haccepted⟩ | ⟨hmove, haccepted⟩ := s.accepted_cases
    · simp [haccepted]
    · obtain ⟨hvalid', hword⟩ := State.advance_ports_of_holdsCommand hholds hvalid hmove
      rw [← step_ports hstep] at hvalid' hword
      rw [Run.after_commands, haccepted, List.nil_append, ← hword]
      exact ih t q hvalid' hrest hq

/-- A host that does not change its levels keeps its duty. -/
theorem hostKeepsDuty_replicate (p : PortsIn) (k : Nat) (s : State)
    (hin : s.inputs = List.replicate (k + 1) p) : hostKeepsDuty k s = true := by
  induction k generalizing s with
  | zero => rfl
  | succ k ih =>
    obtain ⟨t, ht⟩ := step_answers s
    have hsame : s.advance.ports = s.ports := by
      simp [State.ports, hin, List.replicate_succ]
    have hholds : s.holdsCommand = true := by
      cases hvalid : s.ports.cmdValid <;> simp [State.holdsCommand, hsame, hvalid]
    rw [hostKeepsDuty_succ k ht, hholds, Bool.true_and]
    exact ih t (by rw [step_inputs ht, hin]; rfl)

/-- Settles O45, from the duty step by step and the two kinds of host. -/
theorem presentedCommandIsKept : Obligations.PresentedCommandIsKept :=
  ⟨presented_word_kept, fun k s p => hostKeepsDuty_replicate p k s, hostKeepsDuty_hostScript⟩

end Sys2Proof.Machine
end

section
/-! SUPPORT. A run as its commands executed in order, and the stream of a seed (30_encoding.md R66;
42_tempering_output_stage.md R101; 60_exceptions.md R109; 70_reset_and_hazards.md R133, R134), and the statements on
them. -/

namespace Sys2Proof.Machine

/-! ## Commands at transaction level -/

/-- What one command more at the front of a transaction is made of. -/
theorem transact_cons_eq_some {i : Instr} {is : List Instr} {s t : State} {rs : List Response}
    (h : transact (i :: is) s = some (rs, t)) :
    ∃ u qs, exec i s = .next u ∧ transact is u.takeResponse = some (qs, t) ∧
      rs = u.slot.toList ++ qs := by
  obtain ⟨u, -, hu, -⟩ := everyCommandAnswers i s
  rw [transact_cons is hu, Option.map_eq_some_iff] at h
  obtain ⟨⟨qs, t'⟩, hqs, heq⟩ := h
  obtain ⟨rfl, rfl⟩ := Prod.mk.inj heq
  exact ⟨u, qs, hu, hqs, rfl⟩

/-- Commands answer alike from states that agree in what a command reads, by induction on the commands. -/
theorem transact_of_sameCore {is : List Instr} {s r t : State} {rs : List Response}
    (h : transact is s = some (rs, t)) (hcore : s.SameCore r) :
    ∃ u, transact is r = some (rs, u) ∧ t.SameCore u := by
  induction is generalizing s r rs with
  | nil =>
    obtain ⟨rfl, rfl⟩ := Prod.mk.inj (Option.some.inj h)
    exact ⟨r, rfl, hcore⟩
  | cons i is ih =>
    obtain ⟨s', qs, hs', hqs, rfl⟩ := transact_cons_eq_some h
    obtain ⟨u, hu, htu⟩ := ih (r := ({ s' with inputs := r.inputs } : State).takeResponse) hqs
      ⟨rfl, rfl, rfl, rfl⟩
    exact ⟨u, by rw [transact_cons is (exec_of_sameCore hs' hcore), hu]; rfl, htu⟩

theorem State.SameCore.trans {s t u : State} (h : s.SameCore t) (h' : t.SameCore u) : s.SameCore u :=
  ⟨h.mt.trans h'.mt, h.cur.trans h'.cur, h.fault.trans h'.fault, h.draws.trans h'.draws⟩

/-! ## A run and its commands -/

/-- Step by step: what is accepted or was outstanding is delivered or still outstanding. -/
theorem step_counts {s t : State} (hrst : s.ports.rst = false) (h : step s = .next t) :
    s.accepted.length + s.rspValid.toNat + s.busy.toNat =
      s.delivered.length + t.rspValid.toNat + t.busy.toNat := by
  obtain ⟨hreset, -, -⟩ | ⟨-, hslot, -, hmove, rfl⟩ | ⟨w, -, hslot, hbusy, hmove, hrun⟩ |
    ⟨-, hslot, hbusy, -, hmove, rfl⟩ | ⟨-, hmove, rfl⟩ := step_cases h
  · simp [hrst] at hreset
  · obtain ⟨q, hq⟩ := Option.isSome_iff_exists.mp hslot
    simp [State.accepted, State.delivered, State.rspValid, State.busy, hmove, hq]
  · simp [State.accepted, State.delivered, State.busy, hmove, hslot, hbusy, exec_rspValid hrun,
      exec_busyWith hrun]
  · have hnone : (s.advance.accept s.ports.word).rspValid = false := hslot
    simp [State.accepted, State.delivered, State.busy, hmove, hslot, hbusy, hnone]
  · simp [State.accepted, State.delivered, State.rspValid, State.busy, hmove]

/-- The same for a run. -/
theorem observe_counts (k : Nat) (s : State) (r : Run) (h : observe k s = some r) :
    r.commands.length + s.rspValid.toNat + s.busy.toNat =
      r.responses.length + r.final.rspValid.toNat + r.final.busy.toNat := by
  induction k generalizing s r with
  | zero =>
    obtain rfl := Option.some.inj h
    rfl
  | succ k ih =>
    obtain ⟨t, q, hrst, hstep, hq, rfl⟩ := observe_cases h
    have hone := step_counts hrst hstep
    have hrest := ih t q hq
    simp only [Run.after_commands, Run.after_responses, Run.after_final, List.length_append]
    omega

/-- The run `r` from `s` gave what its commands give one after the other: a command in progress at `s`
runs first, and a response waiting at `s` is taken first. -/
def RunIsTransaction (s : State) (r : Run) : Prop :=
  ∃ rs t, transact ((s.busyWith.toList ++ r.commands).map decode) s = some (rs, t) ∧
    r.responses = s.slot.toList ++ rs ∧ r.final.SameCore t

/-- A step that runs no command only moves commands and responses between the host and the engine. -/
theorem RunIsTransaction.after_of_sameCore {s t : State} {q : Run} (h : RunIsTransaction t q)
    (hcore : t.SameCore s) (hcommands : s.busyWith.toList ++ s.accepted = t.busyWith.toList)
    (hresponses : s.delivered ++ t.slot.toList = s.slot.toList) :
    RunIsTransaction s (q.after s) := by
  obtain ⟨rs, u, hrs, hq, hfinal⟩ := h
  rw [← hcommands, List.append_assoc] at hrs
  obtain ⟨u', hu', hcore'⟩ := transact_of_sameCore hrs hcore
  refine ⟨rs, u', hu', ?_, hfinal.trans hcore'⟩
  rw [Run.after_responses, hq, ← List.append_assoc, hresponses]

/-- A step that runs the command in progress puts that command before the others. -/
theorem RunIsTransaction.after_of_run {s t : State} {q : Run} {w : CommandWord}
    (h : RunIsTransaction t q) (hmove : s.move = .run w) (hbusy : s.busyWith = some w)
    (hslot : s.slot = none) (hrun : exec (decode w) s.advance = .next t) :
    RunIsTransaction s (q.after s) := by
  obtain ⟨rs, u, hrs, hq, hfinal⟩ := h
  rw [exec_busyWith hrun] at hrs
  have hexec := exec_of_sameCore (r := s) hrun ⟨rfl, rfl, rfl, rfl⟩
  obtain ⟨u', hu', hcore⟩ := transact_of_sameCore
    (r := ({ t with inputs := s.inputs } : State).takeResponse) hrs ⟨rfl, rfl, rfl, rfl⟩
  refine ⟨t.slot.toList ++ rs, u', ?_, ?_, hfinal.trans hcore⟩
  · have hcommands : (s.busyWith.toList ++ (q.after s).commands).map decode =
        decode w :: q.commands.map decode := by
      simp [State.accepted, hmove, hbusy]
    rw [hcommands, transact_cons _ hexec]
    exact congrArg (Option.map _) hu'
  · simpa [State.delivered, hmove, hslot] using hq

/-- A run that is over gave what its commands give: by induction on the steps, and each step by its
move. -/
theorem runIsTransaction_of_over (k : Nat) (s : State) (r : Run)
    (hone : (s.busy && s.rspValid) = false) (h : observe k s = some r) (hover : r.over = true) :
    RunIsTransaction s r := by
  induction k generalizing s r with
  | zero =>
    obtain rfl := Option.some.inj h
    obtain ⟨hbusy, hslot⟩ : s.busyWith = none ∧ s.slot = none := by
      simpa [Run.over, State.busy, State.rspValid] using hover
    exact ⟨[], s, by rw [hbusy]; rfl, by rw [hslot]; rfl, rfl, rfl, rfl, rfl⟩
  | succ k ih =>
    obtain ⟨t, q, hrst, hstep, hq, rfl⟩ := observe_cases h
    have hrest := ih t q (step_keeps_one_outstanding hone hstep) hq hover
    obtain ⟨hreset, -, -⟩ | ⟨-, -, -, hmove, rfl⟩ | ⟨w, -, hvalid, hbusy, hmove, hrun⟩ |
      ⟨-, -, hbusy, -, hmove, rfl⟩ | ⟨-, hmove, rfl⟩ := step_cases hstep
    · simp [hrst] at hreset
    · exact hrest.after_of_sameCore ⟨rfl, rfl, rfl, rfl⟩ (by simp [State.accepted, hmove])
        (by simp [State.delivered, hmove])
    · exact hrest.after_of_run hmove hbusy (by simpa [State.rspValid] using hvalid) hrun
    · exact hrest.after_of_sameCore ⟨rfl, rfl, rfl, rfl⟩ (by simp [State.accepted, hmove, hbusy])
        (by simp [State.delivered, hmove])
    · exact hrest.after_of_sameCore ⟨rfl, rfl, rfl, rfl⟩ (by simp [State.accepted, hmove])
        (by simp [State.delivered, hmove])

/-- Settles O59: from an idle engine nothing is outstanding, so the run is its own commands. -/
theorem runIsItsCommands : Obligations.RunIsItsCommands := by
  intro k s r hready h
  obtain ⟨hbusy, hslot⟩ := s.cmdReady_iff.mp hready
  refine ⟨?_, fun hover => ?_⟩
  · simpa [State.rspValid, State.busy, hbusy, hslot] using observe_counts k s r h
  · obtain ⟨rs, t, hrs, hresponses, hfinal⟩ :=
      runIsTransaction_of_over k s r (by simp [State.busy, hbusy]) h hover
    rw [hslot] at hresponses
    rw [hbusy] at hrs
    refine ⟨t, ?_, hfinal.mt, hfinal.cur, hfinal.fault⟩
    rw [hresponses]
    exact hrs

/-! ## The stream of a seed (R101 under R109) -/

/-- FAULT bits are sticky at transaction level too, by induction on the commands. -/
theorem transact_keeps_fault {is : List Instr} {s t : State} {rs : List Response}
    (h : transact is s = some (rs, t)) (hs : s.fault ≠ 0b00#2) : t.fault ≠ 0b00#2 := by
  induction is generalizing s rs with
  | nil =>
    obtain ⟨-, rfl⟩ := Prod.mk.inj (Option.some.inj h)
    exact hs
  | cons i is ih =>
    obtain ⟨u, qs, hu, hqs, -⟩ := transact_cons_eq_some h
    exact ih (s := u.takeResponse) hqs (fault_ne_zero_of_and_eq (exec_keeps_fault (t := u) hu) hs)

/-- The responses of `n` calls of `NEXT` within an epoch, from cursor `c` on. -/
def streamFrom (mt : StateArray) (c n : Nat) : List Response :=
  List.ofFn fun i : Fin n => ⟨temper (wordAt mt (c + i.val + 1)), false⟩

theorem streamFrom_succ (mt : StateArray) (c n : Nat) :
    streamFrom mt c (n + 1) = ⟨temper (wordAt mt (c + 1)), false⟩ :: streamFrom mt (c + 1) n := by
  have hindex (i : Fin n) : c + (i.val + 1) + 1 = c + 1 + i.val + 1 := by omega
  simp [streamFrom, List.ofFn_succ, hindex]

/-- From cursor 0 they are the words from index 1 on. -/
theorem streamFrom_zero (mt : StateArray) {n : Nat} (hn : n ≤ 623) :
    streamFrom mt 0 n = List.ofFn fun i : Fin n => ⟨temper (mt[i.val + 1]'(by omega)), false⟩ := by
  have hword (i : Fin n) : wordAt mt (0 + i.val + 1) = mt[i.val + 1]'(by omega) := by
    rw [Nat.zero_add, wordAt_eq mt _ (by omega)]
  simp only [streamFrom, hword]

/-- When calls of `NEXT` end with no FAULT bit set, they stayed within the epoch and answered its
words: a call at cursor 623 would have raised OOB, which stays. -/
theorem transact_next_of_clean {n : Nat} {s t : State} {rs : List Response} (hcur : s.cur.toNat ≤ 623)
    (h : transact (List.replicate n .next) s = some (rs, t)) (hclean : t.fault = 0b00#2) :
    s.cur.toNat + n ≤ 623 ∧ rs = streamFrom s.mt s.cur.toNat n ∧ t.mt = s.mt ∧
      t.cur.toNat = s.cur.toNat + n := by
  induction n generalizing s rs with
  | zero =>
    obtain ⟨rfl, rfl⟩ := Prod.mk.inj (Option.some.inj h)
    exact ⟨hcur, rfl, rfl, rfl⟩
  | succ n ih =>
    rw [List.replicate_succ] at h
    obtain ⟨u, qs, hu, hqs, rfl⟩ := transact_cons_eq_some h
    obtain ⟨hlt, rfl⟩ | ⟨-, rfl⟩ | ⟨hex, -⟩ := exec_next_cases hu
    · have hnext : s.incrementCursor.cur.toNat = s.cur.toNat + 1 := cursor_add_one s.cur (by omega)
      have hcalls := ih (by exact hnext.le.trans hlt) hqs
      simp only [State.takeResponse_cur, State.takeResponse_mt, State.respond_cur, State.respond_mt,
        State.incrementCursor_mt, hnext] at hcalls
      obtain ⟨hle, rfl, hmt, hend⟩ := hcalls
      exact ⟨by omega, (streamFrom_succ s.mt s.cur.toNat n).symm, hmt, by omega⟩
    · exact absurd hclean (transact_keeps_fault hqs (raiseIn_ne_zero .oob s.fault))
    · omega

/-- Settles O60: the run is `SEED v` and its `NEXT` commands in order, and these stayed in the epoch. -/
theorem streamOfSeed : Obligations.StreamOfSeed := by
  rintro v a k inputs draws r ⟨-, hrun, hover, hclean⟩ - n hcommands
  obtain ⟨-, htransact⟩ := runIsItsCommands k (launch inputs draws) r rfl hrun
  obtain ⟨t, ht, hmt, hcur, hfault⟩ := htransact hover
  rw [hcommands] at ht
  obtain ⟨u, rs, hu, hrs, hresponses⟩ := transact_cons_eq_some ht
  obtain rfl := Host.Outcome.next.inj ((exec_seed v _).symm.trans hu)
  have hend : t.fault = 0b00#2 := hfault ▸ not_not.mp hclean
  have hcalls := transact_next_of_clean (Nat.zero_le _) hrs hend
  simp only [State.takeResponse_cur, State.takeResponse_mt, State.respond_cur, State.respond_mt,
    State.seedWith_cur, State.seedWith_mt, initWords_ignores_array v (launch inputs draws).mt a,
    BitVec.toNat_ofNat, Nat.zero_mod, Nat.zero_add] at hcalls
  obtain ⟨hn, rfl, hmt', hcur'⟩ := hcalls
  refine ⟨hn, ?_, hmt.trans hmt', (congrArg BitVec.toNat hcur).trans hcur'⟩
  rw [hresponses, streamFrom_zero _ hn]
  rfl

end Sys2Proof.Machine
end
